-- ==== Sys2Proof/Word.lean ====
section
/-! DEFINITION. The words the ports, registers and table entries carry (10_state.md R20, R22; 00_scope.md R9). -/

namespace Sys2Proof

/-- An operand, result or table entry word: 64 bits (R7, R61). -/
abbrev Word := BitVec 64

/-- The bit pattern of a binary32 value (R9). -/
abbrev F32 := BitVec 32

/-- The bit pattern of a binary64 value (R9). -/
abbrev F64 := BitVec 64

/-- The 32-bit name of a table (R62). -/
abbrev Handle := BitVec 32

end Sys2Proof
end

