-- ==== Sys2Proof/Syntax.lean ====
section
/-! DEFINITION. The commands of RYTHM-CORE-CMD 1.0 as data: one constructor of `Instr` per row of
spec/opcode_table.json (30_encoding.md R86, R91). Operand words are not part of an instruction: they stand in
the ports `OPA`, `OPB` (10_state.md R20). -/

namespace Sys2Proof

/-- The fourteen Sample Formats (R82, R110). -/
inductive Fmt where
  | i8 | i16 | i24 | i32 | i48 | i64
  | u8 | u16 | u24 | u32 | u48 | u64
  | f32 | f64
  deriving DecidableEq, Repr, Inhabited

/-- The Waveform Kinds (R83): the source's four, and the cosine, which is legal in `SMP` only. -/
inductive Wave where
  | sin | saw | tri | sqr | cos
  deriving DecidableEq, Repr, Inhabited

/-- The Duty Cycle codes (R84). -/
inductive Duty where
  | d125 | d250 | d330 | d500
  deriving DecidableEq, Repr, Inhabited

/-- One command. The 196 conversions carry no field: the pair of formats selects the row. `df` is the
destination Sample Format, `wk` the Waveform Kind, `dc` the Duty Cycle, `g` the boolean input and `inst` the
8-bit instance or private buffer index (R80, R85). -/
inductive Instr where
  /-- `CVT.I8.I8` (R200). -/
  | cvtI8I8
  /-- `CVT.I8.I16` (R201). -/
  | cvtI8I16
  /-- `CVT.I8.I24` (R202). -/
  | cvtI8I24
  /-- `CVT.I8.I32` (R203). -/
  | cvtI8I32
  /-- `CVT.I8.I48` (R204). -/
  | cvtI8I48
  /-- `CVT.I8.I64` (R205). -/
  | cvtI8I64
  /-- `CVT.I8.U8` (R206). -/
  | cvtI8U8
  /-- `CVT.I8.U16` (R207). -/
  | cvtI8U16
  /-- `CVT.I8.U24` (R208). -/
  | cvtI8U24
  /-- `CVT.I8.U32` (R209). -/
  | cvtI8U32
  /-- `CVT.I8.U48` (R210). -/
  | cvtI8U48
  /-- `CVT.I8.U64` (R211). -/
  | cvtI8U64
  /-- `CVT.I8.F32` (R212). -/
  | cvtI8F32
  /-- `CVT.I8.F64` (R213). -/
  | cvtI8F64
  /-- `CVT.I16.I8` (R214). -/
  | cvtI16I8
  /-- `CVT.I16.I16` (R215). -/
  | cvtI16I16
  /-- `CVT.I16.I24` (R216). -/
  | cvtI16I24
  /-- `CVT.I16.I32` (R217). -/
  | cvtI16I32
  /-- `CVT.I16.I48` (R218). -/
  | cvtI16I48
  /-- `CVT.I16.I64` (R219). -/
  | cvtI16I64
  /-- `CVT.I16.U8` (R220). -/
  | cvtI16U8
  /-- `CVT.I16.U16` (R221). -/
  | cvtI16U16
  /-- `CVT.I16.U24` (R222). -/
  | cvtI16U24
  /-- `CVT.I16.U32` (R223). -/
  | cvtI16U32
  /-- `CVT.I16.U48` (R224). -/
  | cvtI16U48
  /-- `CVT.I16.U64` (R225). -/
  | cvtI16U64
  /-- `CVT.I16.F32` (R226). -/
  | cvtI16F32
  /-- `CVT.I16.F64` (R227). -/
  | cvtI16F64
  /-- `CVT.I24.I8` (R228). -/
  | cvtI24I8
  /-- `CVT.I24.I16` (R229). -/
  | cvtI24I16
  /-- `CVT.I24.I24` (R230). -/
  | cvtI24I24
  /-- `CVT.I24.I32` (R231). -/
  | cvtI24I32
  /-- `CVT.I24.I48` (R232). -/
  | cvtI24I48
  /-- `CVT.I24.I64` (R233). -/
  | cvtI24I64
  /-- `CVT.I24.U8` (R234). -/
  | cvtI24U8
  /-- `CVT.I24.U16` (R235). -/
  | cvtI24U16
  /-- `CVT.I24.U24` (R236). -/
  | cvtI24U24
  /-- `CVT.I24.U32` (R237). -/
  | cvtI24U32
  /-- `CVT.I24.U48` (R238). -/
  | cvtI24U48
  /-- `CVT.I24.U64` (R239). -/
  | cvtI24U64
  /-- `CVT.I24.F32` (R240). -/
  | cvtI24F32
  /-- `CVT.I24.F64` (R241). -/
  | cvtI24F64
  /-- `CVT.I32.I8` (R242). -/
  | cvtI32I8
  /-- `CVT.I32.I16` (R243). -/
  | cvtI32I16
  /-- `CVT.I32.I24` (R244). -/
  | cvtI32I24
  /-- `CVT.I32.I32` (R245). -/
  | cvtI32I32
  /-- `CVT.I32.I48` (R246). -/
  | cvtI32I48
  /-- `CVT.I32.I64` (R247). -/
  | cvtI32I64
  /-- `CVT.I32.U8` (R248). -/
  | cvtI32U8
  /-- `CVT.I32.U16` (R249). -/
  | cvtI32U16
  /-- `CVT.I32.U24` (R250). -/
  | cvtI32U24
  /-- `CVT.I32.U32` (R251). -/
  | cvtI32U32
  /-- `CVT.I32.U48` (R252). -/
  | cvtI32U48
  /-- `CVT.I32.U64` (R253). -/
  | cvtI32U64
  /-- `CVT.I32.F32` (R254). -/
  | cvtI32F32
  /-- `CVT.I32.F64` (R255). -/
  | cvtI32F64
  /-- `CVT.I48.I8` (R256). -/
  | cvtI48I8
  /-- `CVT.I48.I16` (R257). -/
  | cvtI48I16
  /-- `CVT.I48.I24` (R258). -/
  | cvtI48I24
  /-- `CVT.I48.I32` (R259). -/
  | cvtI48I32
  /-- `CVT.I48.I48` (R260). -/
  | cvtI48I48
  /-- `CVT.I48.I64` (R261). -/
  | cvtI48I64
  /-- `CVT.I48.U8` (R262). -/
  | cvtI48U8
  /-- `CVT.I48.U16` (R263). -/
  | cvtI48U16
  /-- `CVT.I48.U24` (R264). -/
  | cvtI48U24
  /-- `CVT.I48.U32` (R265). -/
  | cvtI48U32
  /-- `CVT.I48.U48` (R266). -/
  | cvtI48U48
  /-- `CVT.I48.U64` (R267). -/
  | cvtI48U64
  /-- `CVT.I48.F32` (R268). -/
  | cvtI48F32
  /-- `CVT.I48.F64` (R269). -/
  | cvtI48F64
  /-- `CVT.I64.I8` (R270). -/
  | cvtI64I8
  /-- `CVT.I64.I16` (R271). -/
  | cvtI64I16
  /-- `CVT.I64.I24` (R272). -/
  | cvtI64I24
  /-- `CVT.I64.I32` (R273). -/
  | cvtI64I32
  /-- `CVT.I64.I48` (R274). -/
  | cvtI64I48
  /-- `CVT.I64.I64` (R275). -/
  | cvtI64I64
  /-- `CVT.I64.U8` (R276). -/
  | cvtI64U8
  /-- `CVT.I64.U16` (R277). -/
  | cvtI64U16
  /-- `CVT.I64.U24` (R278). -/
  | cvtI64U24
  /-- `CVT.I64.U32` (R279). -/
  | cvtI64U32
  /-- `CVT.I64.U48` (R280). -/
  | cvtI64U48
  /-- `CVT.I64.U64` (R281). -/
  | cvtI64U64
  /-- `CVT.I64.F32` (R282). -/
  | cvtI64F32
  /-- `CVT.I64.F64` (R283). -/
  | cvtI64F64
  /-- `CVT.U8.I8` (R300). -/
  | cvtU8I8
  /-- `CVT.U8.I16` (R301). -/
  | cvtU8I16
  /-- `CVT.U8.I24` (R302). -/
  | cvtU8I24
  /-- `CVT.U8.I32` (R303). -/
  | cvtU8I32
  /-- `CVT.U8.I48` (R304). -/
  | cvtU8I48
  /-- `CVT.U8.I64` (R305). -/
  | cvtU8I64
  /-- `CVT.U8.U8` (R306). -/
  | cvtU8U8
  /-- `CVT.U8.U16` (R307). -/
  | cvtU8U16
  /-- `CVT.U8.U24` (R308). -/
  | cvtU8U24
  /-- `CVT.U8.U32` (R309). -/
  | cvtU8U32
  /-- `CVT.U8.U48` (R310). -/
  | cvtU8U48
  /-- `CVT.U8.U64` (R311). -/
  | cvtU8U64
  /-- `CVT.U8.F32` (R312). -/
  | cvtU8F32
  /-- `CVT.U8.F64` (R313). -/
  | cvtU8F64
  /-- `CVT.U16.I8` (R314). -/
  | cvtU16I8
  /-- `CVT.U16.I16` (R315). -/
  | cvtU16I16
  /-- `CVT.U16.I24` (R316). -/
  | cvtU16I24
  /-- `CVT.U16.I32` (R317). -/
  | cvtU16I32
  /-- `CVT.U16.I48` (R318). -/
  | cvtU16I48
  /-- `CVT.U16.I64` (R319). -/
  | cvtU16I64
  /-- `CVT.U16.U8` (R320). -/
  | cvtU16U8
  /-- `CVT.U16.U16` (R321). -/
  | cvtU16U16
  /-- `CVT.U16.U24` (R322). -/
  | cvtU16U24
  /-- `CVT.U16.U32` (R323). -/
  | cvtU16U32
  /-- `CVT.U16.U48` (R324). -/
  | cvtU16U48
  /-- `CVT.U16.U64` (R325). -/
  | cvtU16U64
  /-- `CVT.U16.F32` (R326). -/
  | cvtU16F32
  /-- `CVT.U16.F64` (R327). -/
  | cvtU16F64
  /-- `CVT.U24.I8` (R328). -/
  | cvtU24I8
  /-- `CVT.U24.I16` (R329). -/
  | cvtU24I16
  /-- `CVT.U24.I24` (R330). -/
  | cvtU24I24
  /-- `CVT.U24.I32` (R331). -/
  | cvtU24I32
  /-- `CVT.U24.I48` (R332). -/
  | cvtU24I48
  /-- `CVT.U24.I64` (R333). -/
  | cvtU24I64
  /-- `CVT.U24.U8` (R334). -/
  | cvtU24U8
  /-- `CVT.U24.U16` (R335). -/
  | cvtU24U16
  /-- `CVT.U24.U24` (R336). -/
  | cvtU24U24
  /-- `CVT.U24.U32` (R337). -/
  | cvtU24U32
  /-- `CVT.U24.U48` (R338). -/
  | cvtU24U48
  /-- `CVT.U24.U64` (R339). -/
  | cvtU24U64
  /-- `CVT.U24.F32` (R340). -/
  | cvtU24F32
  /-- `CVT.U24.F64` (R341). -/
  | cvtU24F64
  /-- `CVT.U32.I8` (R342). -/
  | cvtU32I8
  /-- `CVT.U32.I16` (R343). -/
  | cvtU32I16
  /-- `CVT.U32.I24` (R344). -/
  | cvtU32I24
  /-- `CVT.U32.I32` (R345). -/
  | cvtU32I32
  /-- `CVT.U32.I48` (R346). -/
  | cvtU32I48
  /-- `CVT.U32.I64` (R347). -/
  | cvtU32I64
  /-- `CVT.U32.U8` (R348). -/
  | cvtU32U8
  /-- `CVT.U32.U16` (R349). -/
  | cvtU32U16
  /-- `CVT.U32.U24` (R350). -/
  | cvtU32U24
  /-- `CVT.U32.U32` (R351). -/
  | cvtU32U32
  /-- `CVT.U32.U48` (R352). -/
  | cvtU32U48
  /-- `CVT.U32.U64` (R353). -/
  | cvtU32U64
  /-- `CVT.U32.F32` (R354). -/
  | cvtU32F32
  /-- `CVT.U32.F64` (R355). -/
  | cvtU32F64
  /-- `CVT.U48.I8` (R356). -/
  | cvtU48I8
  /-- `CVT.U48.I16` (R357). -/
  | cvtU48I16
  /-- `CVT.U48.I24` (R358). -/
  | cvtU48I24
  /-- `CVT.U48.I32` (R359). -/
  | cvtU48I32
  /-- `CVT.U48.I48` (R360). -/
  | cvtU48I48
  /-- `CVT.U48.I64` (R361). -/
  | cvtU48I64
  /-- `CVT.U48.U8` (R362). -/
  | cvtU48U8
  /-- `CVT.U48.U16` (R363). -/
  | cvtU48U16
  /-- `CVT.U48.U24` (R364). -/
  | cvtU48U24
  /-- `CVT.U48.U32` (R365). -/
  | cvtU48U32
  /-- `CVT.U48.U48` (R366). -/
  | cvtU48U48
  /-- `CVT.U48.U64` (R367). -/
  | cvtU48U64
  /-- `CVT.U48.F32` (R368). -/
  | cvtU48F32
  /-- `CVT.U48.F64` (R369). -/
  | cvtU48F64
  /-- `CVT.U64.I8` (R370). -/
  | cvtU64I8
  /-- `CVT.U64.I16` (R371). -/
  | cvtU64I16
  /-- `CVT.U64.I24` (R372). -/
  | cvtU64I24
  /-- `CVT.U64.I32` (R373). -/
  | cvtU64I32
  /-- `CVT.U64.I48` (R374). -/
  | cvtU64I48
  /-- `CVT.U64.I64` (R375). -/
  | cvtU64I64
  /-- `CVT.U64.U8` (R376). -/
  | cvtU64U8
  /-- `CVT.U64.U16` (R377). -/
  | cvtU64U16
  /-- `CVT.U64.U24` (R378). -/
  | cvtU64U24
  /-- `CVT.U64.U32` (R379). -/
  | cvtU64U32
  /-- `CVT.U64.U48` (R380). -/
  | cvtU64U48
  /-- `CVT.U64.U64` (R381). -/
  | cvtU64U64
  /-- `CVT.U64.F32` (R382). -/
  | cvtU64F32
  /-- `CVT.U64.F64` (R383). -/
  | cvtU64F64
  /-- `CVT.F32.I8` (R400). -/
  | cvtF32I8
  /-- `CVT.F32.I16` (R401). -/
  | cvtF32I16
  /-- `CVT.F32.I24` (R402). -/
  | cvtF32I24
  /-- `CVT.F32.I32` (R403). -/
  | cvtF32I32
  /-- `CVT.F32.I48` (R404). -/
  | cvtF32I48
  /-- `CVT.F32.I64` (R405). -/
  | cvtF32I64
  /-- `CVT.F32.U8` (R406). -/
  | cvtF32U8
  /-- `CVT.F32.U16` (R407). -/
  | cvtF32U16
  /-- `CVT.F32.U24` (R408). -/
  | cvtF32U24
  /-- `CVT.F32.U32` (R409). -/
  | cvtF32U32
  /-- `CVT.F32.U48` (R410). -/
  | cvtF32U48
  /-- `CVT.F32.U64` (R411). -/
  | cvtF32U64
  /-- `CVT.F32.F32` (R412). -/
  | cvtF32F32
  /-- `CVT.F32.F64` (R413). -/
  | cvtF32F64
  /-- `CVT.F64.I8` (R414). -/
  | cvtF64I8
  /-- `CVT.F64.I16` (R415). -/
  | cvtF64I16
  /-- `CVT.F64.I24` (R416). -/
  | cvtF64I24
  /-- `CVT.F64.I32` (R417). -/
  | cvtF64I32
  /-- `CVT.F64.I48` (R418). -/
  | cvtF64I48
  /-- `CVT.F64.I64` (R419). -/
  | cvtF64I64
  /-- `CVT.F64.U8` (R420). -/
  | cvtF64U8
  /-- `CVT.F64.U16` (R421). -/
  | cvtF64U16
  /-- `CVT.F64.U24` (R422). -/
  | cvtF64U24
  /-- `CVT.F64.U32` (R423). -/
  | cvtF64U32
  /-- `CVT.F64.U48` (R424). -/
  | cvtF64U48
  /-- `CVT.F64.U64` (R425). -/
  | cvtF64U64
  /-- `CVT.F64.F32` (R426). -/
  | cvtF64F32
  /-- `CVT.F64.F64` (R427). -/
  | cvtF64F64
  /-- `SMP.SIN` (R508). -/
  | smpSin (df : Fmt) (dc : Duty)
  /-- `SMP.SAW` (R509). -/
  | smpSaw (df : Fmt) (dc : Duty)
  /-- `SMP.TRI` (R510). -/
  | smpTri (df : Fmt) (dc : Duty)
  /-- `SMP.SQR` (R511). -/
  | smpSqr (df : Fmt) (dc : Duty)
  /-- `SMP.COS` (R512). -/
  | smpCos (df : Fmt) (dc : Duty)
  /-- `OSC.CFG` (R514). -/
  | oscCfg (wk : Wave) (dc : Duty) (inst : BitVec 8)
  /-- `OSC.NEXT` (R515). -/
  | oscNext (df : Fmt) (inst : BitVec 8)
  /-- `OSC.AT` (R516). -/
  | oscAt (df : Fmt) (inst : BitVec 8)
  /-- `TBL.BUILD` (R541). -/
  | tblBuild (wk : Wave) (dc : Duty) (inst : BitVec 8)
  /-- `TBL.ALLOC` (R546). -/
  | tblAlloc (wk : Wave) (dc : Duty)
  /-- `LUT.BIND` (R549). -/
  | lutBind (inst : BitVec 8)
  /-- `LUT.NEXT` (R551). -/
  | lutNext (inst : BitVec 8)
  /-- `LUT.AT` (R552). -/
  | lutAt (inst : BitVec 8)
  /-- `VSO.SET_MASTER` (R571). -/
  | vsoSetMaster (inst : BitVec 8)
  /-- `VSO.SET_SLAVE` (R572). -/
  | vsoSetSlave (inst : BitVec 8)
  /-- `VSO.SET_PW` (R573). -/
  | vsoSetPw (inst : BitVec 8)
  /-- `VSO.SET_SHAPE` (R574). -/
  | vsoSetShape (inst : BitVec 8)
  /-- `VSO.SET_SYNC` (R575). -/
  | vsoSetSync (g : Bool) (inst : BitVec 8)
  /-- `VSO.TICK` (R580). -/
  | vsoTick (inst : BitVec 8)
  /-- `ENV.SET_ATTACK` (R605). -/
  | envSetAttack (inst : BitVec 8)
  /-- `ENV.SET_DECAY` (R606). -/
  | envSetDecay (inst : BitVec 8)
  /-- `ENV.SET_RELEASE` (R607). -/
  | envSetRelease (inst : BitVec 8)
  /-- `ENV.SET_SUSTAIN` (R608). -/
  | envSetSustain (inst : BitVec 8)
  /-- `ENV.TICK` (R610). -/
  | envTick (g : Bool) (inst : BitVec 8)
  /-- `ENV.STAT` (R612). -/
  | envStat (inst : BitVec 8)
  deriving DecidableEq, Repr

end Sys2Proof
end

