-- ==== Sys2Proof/WellFormed.lean ====
section
/-! DEFINITION. Which instructions the encoding admits. The types of `Instr` leave one check: code 4, the cosine,
is a Waveform Kind of `SMP` only (30_encoding.md R83, check (4) of R88). -/

namespace Sys2Proof

/-- A Waveform Kind that `OSC.CFG`, `TBL.BUILD` and `TBL.ALLOC` admit: one of the source's four (R83). -/
def Wave.isSourceKind : Wave → Bool
  | .cos => false
  | _ => true

/-- An instruction that some command word encodes. -/
def Instr.wellFormed : Instr → Bool
  | .oscCfg wk _ _ => wk.isSourceKind
  | .tblBuild wk _ _ => wk.isSourceKind
  | .tblAlloc wk _ => wk.isSourceKind
  | _ => true

end Sys2Proof
end

