-- ==== Sys2Proof/Decode.lean ====
section
/-! DEFINITION. The command encoding (30_encoding.md): the fields of the command word (R80), the code tables
(R82 to R84), the opcode map (R86), the decoder with checks (1) to (4) of R88 in their order, and the encoder.
Checks (5) and (6) of R88 need the state and stand in the meanings. -/

namespace Sys2Proof

/-- Why a command word is illegal, by the first of the checks (1) to (4) of R88 that fails. -/
inductive DecodeError where
  /-- Check (1): the opcode is not in the table of R86. -/
  | undefinedOpcode
  /-- Check (2): a field the opcode does not use is nonzero, or `Z = 1`. -/
  | unusedField
  /-- Check (3): a used format code is 14 or 15. -/
  | reservedFormat
  /-- Check (4): a used Waveform Kind code is above 4, or is 4 with an opcode other than `SMP`. -/
  | reservedKind
  deriving DecidableEq, Repr

/-- `OPC`, bits 31:24 (R80). -/
def opcField (c : BitVec 32) : BitVec 8 := c.extractLsb' 24 8
/-- `DF`, bits 23:20 (R80). -/
def dfField (c : BitVec 32) : BitVec 4 := c.extractLsb' 20 4
/-- `SF`, bits 19:16 (R80). -/
def sfField (c : BitVec 32) : BitVec 4 := c.extractLsb' 16 4
/-- `WK`, bits 15:12 (R80). -/
def wkField (c : BitVec 32) : BitVec 4 := c.extractLsb' 12 4
/-- `DC`, bits 11:10 (R80). -/
def dcField (c : BitVec 32) : BitVec 2 := c.extractLsb' 10 2
/-- `G`, bit 9 (R80). -/
def gField (c : BitVec 32) : BitVec 1 := c.extractLsb' 9 1
/-- `Z`, bit 8 (R80). -/
def zField (c : BitVec 32) : BitVec 1 := c.extractLsb' 8 1
/-- `INST`, bits 7:0 (R80). -/
def instField (c : BitVec 32) : BitVec 8 := c.extractLsb' 0 8

/-- The command word with the given fields, in the order of R80. -/
def packCommand (opc : BitVec 8) (df sf wk : BitVec 4) (dc : BitVec 2) (g z : BitVec 1) (inst : BitVec 8) :
    BitVec 32 :=
  opc ++ df ++ sf ++ wk ++ dc ++ g ++ z ++ inst

/-- Sample Format codes (R82). -/
def Fmt.code : Fmt → BitVec 4
  | .i8 => 0#4
  | .i16 => 1#4
  | .i24 => 2#4
  | .i32 => 3#4
  | .i48 => 4#4
  | .i64 => 5#4
  | .u8 => 6#4
  | .u16 => 7#4
  | .u24 => 8#4
  | .u32 => 9#4
  | .u48 => 10#4
  | .u64 => 11#4
  | .f32 => 12#4
  | .f64 => 13#4

/-- The Sample Format of a code (R82); 14 and 15 are reserved. -/
def fmtOfCode (c : BitVec 4) : Option Fmt :=
  match c.toNat with
  | 0 => some .i8
  | 1 => some .i16
  | 2 => some .i24
  | 3 => some .i32
  | 4 => some .i48
  | 5 => some .i64
  | 6 => some .u8
  | 7 => some .u16
  | 8 => some .u24
  | 9 => some .u32
  | 10 => some .u48
  | 11 => some .u64
  | 12 => some .f32
  | 13 => some .f64
  | _ => none

/-- Waveform Kind codes (R83). -/
def Wave.code : Wave → BitVec 4
  | .sin => 0#4
  | .saw => 1#4
  | .tri => 2#4
  | .sqr => 3#4
  | .cos => 4#4

/-- The Waveform Kind of a code (R83); 5 to 15 are reserved. -/
def waveOfCode (c : BitVec 4) : Option Wave :=
  match c.toNat with
  | 0 => some .sin
  | 1 => some .saw
  | 2 => some .tri
  | 3 => some .sqr
  | 4 => some .cos
  | _ => none

/-- Duty Cycle codes (R84). -/
def Duty.code : Duty → BitVec 2
  | .d125 => 0#2
  | .d250 => 1#2
  | .d330 => 2#2
  | .d500 => 3#2

/-- The Duty Cycle of a code (R84); all four are legal. -/
def dutyOfCode (c : BitVec 2) : Duty :=
  match c.toNat with
  | 0 => .d125
  | 1 => .d250
  | 2 => .d330
  | _ => .d500

/-- The conversions from `I8` by destination. -/
def cvtFromI8 : Fmt → Instr
  | .i8 => .cvtI8I8
  | .i16 => .cvtI8I16
  | .i24 => .cvtI8I24
  | .i32 => .cvtI8I32
  | .i48 => .cvtI8I48
  | .i64 => .cvtI8I64
  | .u8 => .cvtI8U8
  | .u16 => .cvtI8U16
  | .u24 => .cvtI8U24
  | .u32 => .cvtI8U32
  | .u48 => .cvtI8U48
  | .u64 => .cvtI8U64
  | .f32 => .cvtI8F32
  | .f64 => .cvtI8F64

/-- The conversions from `I16` by destination. -/
def cvtFromI16 : Fmt → Instr
  | .i8 => .cvtI16I8
  | .i16 => .cvtI16I16
  | .i24 => .cvtI16I24
  | .i32 => .cvtI16I32
  | .i48 => .cvtI16I48
  | .i64 => .cvtI16I64
  | .u8 => .cvtI16U8
  | .u16 => .cvtI16U16
  | .u24 => .cvtI16U24
  | .u32 => .cvtI16U32
  | .u48 => .cvtI16U48
  | .u64 => .cvtI16U64
  | .f32 => .cvtI16F32
  | .f64 => .cvtI16F64

/-- The conversions from `I24` by destination. -/
def cvtFromI24 : Fmt → Instr
  | .i8 => .cvtI24I8
  | .i16 => .cvtI24I16
  | .i24 => .cvtI24I24
  | .i32 => .cvtI24I32
  | .i48 => .cvtI24I48
  | .i64 => .cvtI24I64
  | .u8 => .cvtI24U8
  | .u16 => .cvtI24U16
  | .u24 => .cvtI24U24
  | .u32 => .cvtI24U32
  | .u48 => .cvtI24U48
  | .u64 => .cvtI24U64
  | .f32 => .cvtI24F32
  | .f64 => .cvtI24F64

/-- The conversions from `I32` by destination. -/
def cvtFromI32 : Fmt → Instr
  | .i8 => .cvtI32I8
  | .i16 => .cvtI32I16
  | .i24 => .cvtI32I24
  | .i32 => .cvtI32I32
  | .i48 => .cvtI32I48
  | .i64 => .cvtI32I64
  | .u8 => .cvtI32U8
  | .u16 => .cvtI32U16
  | .u24 => .cvtI32U24
  | .u32 => .cvtI32U32
  | .u48 => .cvtI32U48
  | .u64 => .cvtI32U64
  | .f32 => .cvtI32F32
  | .f64 => .cvtI32F64

/-- The conversions from `I48` by destination. -/
def cvtFromI48 : Fmt → Instr
  | .i8 => .cvtI48I8
  | .i16 => .cvtI48I16
  | .i24 => .cvtI48I24
  | .i32 => .cvtI48I32
  | .i48 => .cvtI48I48
  | .i64 => .cvtI48I64
  | .u8 => .cvtI48U8
  | .u16 => .cvtI48U16
  | .u24 => .cvtI48U24
  | .u32 => .cvtI48U32
  | .u48 => .cvtI48U48
  | .u64 => .cvtI48U64
  | .f32 => .cvtI48F32
  | .f64 => .cvtI48F64

/-- The conversions from `I64` by destination. -/
def cvtFromI64 : Fmt → Instr
  | .i8 => .cvtI64I8
  | .i16 => .cvtI64I16
  | .i24 => .cvtI64I24
  | .i32 => .cvtI64I32
  | .i48 => .cvtI64I48
  | .i64 => .cvtI64I64
  | .u8 => .cvtI64U8
  | .u16 => .cvtI64U16
  | .u24 => .cvtI64U24
  | .u32 => .cvtI64U32
  | .u48 => .cvtI64U48
  | .u64 => .cvtI64U64
  | .f32 => .cvtI64F32
  | .f64 => .cvtI64F64

/-- The conversions from `U8` by destination. -/
def cvtFromU8 : Fmt → Instr
  | .i8 => .cvtU8I8
  | .i16 => .cvtU8I16
  | .i24 => .cvtU8I24
  | .i32 => .cvtU8I32
  | .i48 => .cvtU8I48
  | .i64 => .cvtU8I64
  | .u8 => .cvtU8U8
  | .u16 => .cvtU8U16
  | .u24 => .cvtU8U24
  | .u32 => .cvtU8U32
  | .u48 => .cvtU8U48
  | .u64 => .cvtU8U64
  | .f32 => .cvtU8F32
  | .f64 => .cvtU8F64

/-- The conversions from `U16` by destination. -/
def cvtFromU16 : Fmt → Instr
  | .i8 => .cvtU16I8
  | .i16 => .cvtU16I16
  | .i24 => .cvtU16I24
  | .i32 => .cvtU16I32
  | .i48 => .cvtU16I48
  | .i64 => .cvtU16I64
  | .u8 => .cvtU16U8
  | .u16 => .cvtU16U16
  | .u24 => .cvtU16U24
  | .u32 => .cvtU16U32
  | .u48 => .cvtU16U48
  | .u64 => .cvtU16U64
  | .f32 => .cvtU16F32
  | .f64 => .cvtU16F64

/-- The conversions from `U24` by destination. -/
def cvtFromU24 : Fmt → Instr
  | .i8 => .cvtU24I8
  | .i16 => .cvtU24I16
  | .i24 => .cvtU24I24
  | .i32 => .cvtU24I32
  | .i48 => .cvtU24I48
  | .i64 => .cvtU24I64
  | .u8 => .cvtU24U8
  | .u16 => .cvtU24U16
  | .u24 => .cvtU24U24
  | .u32 => .cvtU24U32
  | .u48 => .cvtU24U48
  | .u64 => .cvtU24U64
  | .f32 => .cvtU24F32
  | .f64 => .cvtU24F64

/-- The conversions from `U32` by destination. -/
def cvtFromU32 : Fmt → Instr
  | .i8 => .cvtU32I8
  | .i16 => .cvtU32I16
  | .i24 => .cvtU32I24
  | .i32 => .cvtU32I32
  | .i48 => .cvtU32I48
  | .i64 => .cvtU32I64
  | .u8 => .cvtU32U8
  | .u16 => .cvtU32U16
  | .u24 => .cvtU32U24
  | .u32 => .cvtU32U32
  | .u48 => .cvtU32U48
  | .u64 => .cvtU32U64
  | .f32 => .cvtU32F32
  | .f64 => .cvtU32F64

/-- The conversions from `U48` by destination. -/
def cvtFromU48 : Fmt → Instr
  | .i8 => .cvtU48I8
  | .i16 => .cvtU48I16
  | .i24 => .cvtU48I24
  | .i32 => .cvtU48I32
  | .i48 => .cvtU48I48
  | .i64 => .cvtU48I64
  | .u8 => .cvtU48U8
  | .u16 => .cvtU48U16
  | .u24 => .cvtU48U24
  | .u32 => .cvtU48U32
  | .u48 => .cvtU48U48
  | .u64 => .cvtU48U64
  | .f32 => .cvtU48F32
  | .f64 => .cvtU48F64

/-- The conversions from `U64` by destination. -/
def cvtFromU64 : Fmt → Instr
  | .i8 => .cvtU64I8
  | .i16 => .cvtU64I16
  | .i24 => .cvtU64I24
  | .i32 => .cvtU64I32
  | .i48 => .cvtU64I48
  | .i64 => .cvtU64I64
  | .u8 => .cvtU64U8
  | .u16 => .cvtU64U16
  | .u24 => .cvtU64U24
  | .u32 => .cvtU64U32
  | .u48 => .cvtU64U48
  | .u64 => .cvtU64U64
  | .f32 => .cvtU64F32
  | .f64 => .cvtU64F64

/-- The conversions from `F32` by destination. -/
def cvtFromF32 : Fmt → Instr
  | .i8 => .cvtF32I8
  | .i16 => .cvtF32I16
  | .i24 => .cvtF32I24
  | .i32 => .cvtF32I32
  | .i48 => .cvtF32I48
  | .i64 => .cvtF32I64
  | .u8 => .cvtF32U8
  | .u16 => .cvtF32U16
  | .u24 => .cvtF32U24
  | .u32 => .cvtF32U32
  | .u48 => .cvtF32U48
  | .u64 => .cvtF32U64
  | .f32 => .cvtF32F32
  | .f64 => .cvtF32F64

/-- The conversions from `F64` by destination. -/
def cvtFromF64 : Fmt → Instr
  | .i8 => .cvtF64I8
  | .i16 => .cvtF64I16
  | .i24 => .cvtF64I24
  | .i32 => .cvtF64I32
  | .i48 => .cvtF64I48
  | .i64 => .cvtF64I64
  | .u8 => .cvtF64U8
  | .u16 => .cvtF64U16
  | .u24 => .cvtF64U24
  | .u32 => .cvtF64U32
  | .u48 => .cvtF64U48
  | .u64 => .cvtF64U64
  | .f32 => .cvtF64F32
  | .f64 => .cvtF64F64

/-- The `CVT` command of a source and a destination Sample Format (R86, R116). -/
def cvtInstr (sf df : Fmt) : Instr :=
  match sf with
  | .i8 => cvtFromI8 df
  | .i16 => cvtFromI16 df
  | .i24 => cvtFromI24 df
  | .i32 => cvtFromI32 df
  | .i48 => cvtFromI48 df
  | .i64 => cvtFromI64 df
  | .u8 => cvtFromU8 df
  | .u16 => cvtFromU16 df
  | .u24 => cvtFromU24 df
  | .u32 => cvtFromU32 df
  | .u48 => cvtFromU48 df
  | .u64 => cvtFromU64 df
  | .f32 => cvtFromF32 df
  | .f64 => cvtFromF64 df

/-- The `SMP` command of a Waveform Kind (R83, R86). -/
def smpInstr (wk : Wave) (df : Fmt) (dc : Duty) : Instr :=
  match wk with
  | .sin => .smpSin df dc
  | .saw => .smpSaw df dc
  | .tri => .smpTri df dc
  | .sqr => .smpSqr df dc
  | .cos => .smpCos df dc

/-- Which fields besides `OPC` an opcode uses: the column "fields" of R86. -/
structure FieldUse where
  df : Bool := false
  sf : Bool := false
  wk : Bool := false
  dc : Bool := false
  g : Bool := false
  inst : Bool := false
  deriving DecidableEq, Repr

/-- Check (2) of R88 holds: every field that is not used is zero, and `Z` is zero. -/
def unusedZero (u : FieldUse) (c : BitVec 32) : Bool :=
  (u.df || dfField c == 0#4) && (u.sf || sfField c == 0#4) && (u.wk || wkField c == 0#4) &&
  (u.dc || dcField c == 0#2) && (u.g || gField c == 0#1) && (zField c == 0#1) &&
  (u.inst || instField c == 0#8)

/-- `CVT` (R116): fields `DF`, `SF`. -/
def decodeCvt (c : BitVec 32) : Except DecodeError Instr :=
  if unusedZero { df := true, sf := true } c then
    match fmtOfCode (sfField c), fmtOfCode (dfField c) with
    | some sf, some df => .ok (cvtInstr sf df)
    | _, _ => .error .reservedFormat
  else .error .unusedField

/-- `SMP` (R508 to R512): fields `DF`, `WK`, `DC`. -/
def decodeSmp (c : BitVec 32) : Except DecodeError Instr :=
  if unusedZero { df := true, wk := true, dc := true } c then
    match fmtOfCode (dfField c) with
    | none => .error .reservedFormat
    | some df =>
      match waveOfCode (wkField c) with
      | none => .error .reservedKind
      | some wk => .ok (smpInstr wk df (dutyOfCode (dcField c)))
  else .error .unusedField

/-- The Waveform Kind of a command other than `SMP`: check (4) of R88 refuses the cosine there. -/
def tableKindOfCode (c : BitVec 4) : Option Wave :=
  match waveOfCode c with
  | some .cos => none
  | w => w

/-- `OSC.CFG` and `TBL.BUILD` (R514, R541): fields `WK`, `DC`, `INST`. -/
def decodeKindInst (mk : Wave → Duty → BitVec 8 → Instr) (c : BitVec 32) : Except DecodeError Instr :=
  if unusedZero { wk := true, dc := true, inst := true } c then
    match tableKindOfCode (wkField c) with
    | none => .error .reservedKind
    | some wk => .ok (mk wk (dutyOfCode (dcField c)) (instField c))
  else .error .unusedField

/-- `TBL.ALLOC` (R546): fields `WK`, `DC`. -/
def decodeAlloc (c : BitVec 32) : Except DecodeError Instr :=
  if unusedZero { wk := true, dc := true } c then
    match tableKindOfCode (wkField c) with
    | none => .error .reservedKind
    | some wk => .ok (.tblAlloc wk (dutyOfCode (dcField c)))
  else .error .unusedField

/-- `OSC.NEXT` and `OSC.AT` (R515, R516): fields `DF`, `INST`. -/
def decodeFmtInst (mk : Fmt → BitVec 8 → Instr) (c : BitVec 32) : Except DecodeError Instr :=
  if unusedZero { df := true, inst := true } c then
    match fmtOfCode (dfField c) with
    | none => .error .reservedFormat
    | some df => .ok (mk df (instField c))
  else .error .unusedField

/-- Format I without a sample result (R81): field `INST`. -/
def decodeInst (mk : BitVec 8 → Instr) (c : BitVec 32) : Except DecodeError Instr :=
  if unusedZero { inst := true } c then .ok (mk (instField c)) else .error .unusedField

/-- Format G (R81): fields `INST`, `G`. -/
def decodeBoolInst (mk : Bool → BitVec 8 → Instr) (c : BitVec 32) : Except DecodeError Instr :=
  if unusedZero { g := true, inst := true } c then .ok (mk (gField c == 1#1) (instField c)) else .error .unusedField

/-- The decoder: the opcode map of R86 with checks (1) to (4) of R88. Total on any command word; it refuses by
name. -/
def decode (c : BitVec 32) : Except DecodeError Instr :=
  match (opcField c).toNat with
  | 0x01 => decodeCvt c
  | 0x10 => decodeSmp c
  | 0x11 => decodeKindInst .oscCfg c
  | 0x12 => decodeFmtInst .oscNext c
  | 0x13 => decodeFmtInst .oscAt c
  | 0x18 => decodeKindInst .tblBuild c
  | 0x19 => decodeAlloc c
  | 0x1A => decodeInst .lutBind c
  | 0x1B => decodeInst .lutNext c
  | 0x1C => decodeInst .lutAt c
  | 0x20 => decodeInst .vsoSetMaster c
  | 0x21 => decodeInst .vsoSetSlave c
  | 0x22 => decodeInst .vsoSetPw c
  | 0x23 => decodeInst .vsoSetShape c
  | 0x24 => decodeBoolInst .vsoSetSync c
  | 0x25 => decodeInst .vsoTick c
  | 0x30 => decodeInst .envSetAttack c
  | 0x31 => decodeInst .envSetDecay c
  | 0x32 => decodeInst .envSetRelease c
  | 0x33 => decodeInst .envSetSustain c
  | 0x34 => decodeBoolInst .envTick c
  | 0x35 => decodeInst .envStat c
  | _ => .error .undefinedOpcode

/-- The word of the conversion from `sf` to `df`: `0x01000000 | DF << 20 | SF << 16` (R116). -/
def encodeCvt (sf df : Fmt) : BitVec 32 := packCommand 0x01#8 df.code sf.code 0#4 0#2 0#1 0#1 0#8
/-- The word of an `SMP` command (R508 to R512). -/
def encodeSmp (wk : Wave) (df : Fmt) (dc : Duty) : BitVec 32 :=
  packCommand 0x10#8 df.code 0#4 wk.code dc.code 0#1 0#1 0#8
/-- The word of a format W command that names a kind, a duty and an instance (R81). -/
def encodeKindInst (opc : BitVec 8) (wk : Wave) (dc : Duty) (inst : BitVec 8) : BitVec 32 :=
  packCommand opc 0#4 0#4 wk.code dc.code 0#1 0#1 inst
/-- The word of a format I command that returns a sample (R81). -/
def encodeFmtInst (opc : BitVec 8) (df : Fmt) (inst : BitVec 8) : BitVec 32 :=
  packCommand opc df.code 0#4 0#4 0#2 0#1 0#1 inst
/-- The word of a format I command that returns no sample (R81). -/
def encodeInst (opc inst : BitVec 8) : BitVec 32 := packCommand opc 0#4 0#4 0#4 0#2 0#1 0#1 inst
/-- The word of a format G command (R81). -/
def encodeBoolInst (opc : BitVec 8) (g : Bool) (inst : BitVec 8) : BitVec 32 :=
  packCommand opc 0#4 0#4 0#4 0#2 (BitVec.ofBool g) 0#1 inst

/-- The encoder: the command word of an instruction, from the map of R86. -/
def encode : Instr → BitVec 32
  | .cvtI8I8 => encodeCvt .i8 .i8
  | .cvtI8I16 => encodeCvt .i8 .i16
  | .cvtI8I24 => encodeCvt .i8 .i24
  | .cvtI8I32 => encodeCvt .i8 .i32
  | .cvtI8I48 => encodeCvt .i8 .i48
  | .cvtI8I64 => encodeCvt .i8 .i64
  | .cvtI8U8 => encodeCvt .i8 .u8
  | .cvtI8U16 => encodeCvt .i8 .u16
  | .cvtI8U24 => encodeCvt .i8 .u24
  | .cvtI8U32 => encodeCvt .i8 .u32
  | .cvtI8U48 => encodeCvt .i8 .u48
  | .cvtI8U64 => encodeCvt .i8 .u64
  | .cvtI8F32 => encodeCvt .i8 .f32
  | .cvtI8F64 => encodeCvt .i8 .f64
  | .cvtI16I8 => encodeCvt .i16 .i8
  | .cvtI16I16 => encodeCvt .i16 .i16
  | .cvtI16I24 => encodeCvt .i16 .i24
  | .cvtI16I32 => encodeCvt .i16 .i32
  | .cvtI16I48 => encodeCvt .i16 .i48
  | .cvtI16I64 => encodeCvt .i16 .i64
  | .cvtI16U8 => encodeCvt .i16 .u8
  | .cvtI16U16 => encodeCvt .i16 .u16
  | .cvtI16U24 => encodeCvt .i16 .u24
  | .cvtI16U32 => encodeCvt .i16 .u32
  | .cvtI16U48 => encodeCvt .i16 .u48
  | .cvtI16U64 => encodeCvt .i16 .u64
  | .cvtI16F32 => encodeCvt .i16 .f32
  | .cvtI16F64 => encodeCvt .i16 .f64
  | .cvtI24I8 => encodeCvt .i24 .i8
  | .cvtI24I16 => encodeCvt .i24 .i16
  | .cvtI24I24 => encodeCvt .i24 .i24
  | .cvtI24I32 => encodeCvt .i24 .i32
  | .cvtI24I48 => encodeCvt .i24 .i48
  | .cvtI24I64 => encodeCvt .i24 .i64
  | .cvtI24U8 => encodeCvt .i24 .u8
  | .cvtI24U16 => encodeCvt .i24 .u16
  | .cvtI24U24 => encodeCvt .i24 .u24
  | .cvtI24U32 => encodeCvt .i24 .u32
  | .cvtI24U48 => encodeCvt .i24 .u48
  | .cvtI24U64 => encodeCvt .i24 .u64
  | .cvtI24F32 => encodeCvt .i24 .f32
  | .cvtI24F64 => encodeCvt .i24 .f64
  | .cvtI32I8 => encodeCvt .i32 .i8
  | .cvtI32I16 => encodeCvt .i32 .i16
  | .cvtI32I24 => encodeCvt .i32 .i24
  | .cvtI32I32 => encodeCvt .i32 .i32
  | .cvtI32I48 => encodeCvt .i32 .i48
  | .cvtI32I64 => encodeCvt .i32 .i64
  | .cvtI32U8 => encodeCvt .i32 .u8
  | .cvtI32U16 => encodeCvt .i32 .u16
  | .cvtI32U24 => encodeCvt .i32 .u24
  | .cvtI32U32 => encodeCvt .i32 .u32
  | .cvtI32U48 => encodeCvt .i32 .u48
  | .cvtI32U64 => encodeCvt .i32 .u64
  | .cvtI32F32 => encodeCvt .i32 .f32
  | .cvtI32F64 => encodeCvt .i32 .f64
  | .cvtI48I8 => encodeCvt .i48 .i8
  | .cvtI48I16 => encodeCvt .i48 .i16
  | .cvtI48I24 => encodeCvt .i48 .i24
  | .cvtI48I32 => encodeCvt .i48 .i32
  | .cvtI48I48 => encodeCvt .i48 .i48
  | .cvtI48I64 => encodeCvt .i48 .i64
  | .cvtI48U8 => encodeCvt .i48 .u8
  | .cvtI48U16 => encodeCvt .i48 .u16
  | .cvtI48U24 => encodeCvt .i48 .u24
  | .cvtI48U32 => encodeCvt .i48 .u32
  | .cvtI48U48 => encodeCvt .i48 .u48
  | .cvtI48U64 => encodeCvt .i48 .u64
  | .cvtI48F32 => encodeCvt .i48 .f32
  | .cvtI48F64 => encodeCvt .i48 .f64
  | .cvtI64I8 => encodeCvt .i64 .i8
  | .cvtI64I16 => encodeCvt .i64 .i16
  | .cvtI64I24 => encodeCvt .i64 .i24
  | .cvtI64I32 => encodeCvt .i64 .i32
  | .cvtI64I48 => encodeCvt .i64 .i48
  | .cvtI64I64 => encodeCvt .i64 .i64
  | .cvtI64U8 => encodeCvt .i64 .u8
  | .cvtI64U16 => encodeCvt .i64 .u16
  | .cvtI64U24 => encodeCvt .i64 .u24
  | .cvtI64U32 => encodeCvt .i64 .u32
  | .cvtI64U48 => encodeCvt .i64 .u48
  | .cvtI64U64 => encodeCvt .i64 .u64
  | .cvtI64F32 => encodeCvt .i64 .f32
  | .cvtI64F64 => encodeCvt .i64 .f64
  | .cvtU8I8 => encodeCvt .u8 .i8
  | .cvtU8I16 => encodeCvt .u8 .i16
  | .cvtU8I24 => encodeCvt .u8 .i24
  | .cvtU8I32 => encodeCvt .u8 .i32
  | .cvtU8I48 => encodeCvt .u8 .i48
  | .cvtU8I64 => encodeCvt .u8 .i64
  | .cvtU8U8 => encodeCvt .u8 .u8
  | .cvtU8U16 => encodeCvt .u8 .u16
  | .cvtU8U24 => encodeCvt .u8 .u24
  | .cvtU8U32 => encodeCvt .u8 .u32
  | .cvtU8U48 => encodeCvt .u8 .u48
  | .cvtU8U64 => encodeCvt .u8 .u64
  | .cvtU8F32 => encodeCvt .u8 .f32
  | .cvtU8F64 => encodeCvt .u8 .f64
  | .cvtU16I8 => encodeCvt .u16 .i8
  | .cvtU16I16 => encodeCvt .u16 .i16
  | .cvtU16I24 => encodeCvt .u16 .i24
  | .cvtU16I32 => encodeCvt .u16 .i32
  | .cvtU16I48 => encodeCvt .u16 .i48
  | .cvtU16I64 => encodeCvt .u16 .i64
  | .cvtU16U8 => encodeCvt .u16 .u8
  | .cvtU16U16 => encodeCvt .u16 .u16
  | .cvtU16U24 => encodeCvt .u16 .u24
  | .cvtU16U32 => encodeCvt .u16 .u32
  | .cvtU16U48 => encodeCvt .u16 .u48
  | .cvtU16U64 => encodeCvt .u16 .u64
  | .cvtU16F32 => encodeCvt .u16 .f32
  | .cvtU16F64 => encodeCvt .u16 .f64
  | .cvtU24I8 => encodeCvt .u24 .i8
  | .cvtU24I16 => encodeCvt .u24 .i16
  | .cvtU24I24 => encodeCvt .u24 .i24
  | .cvtU24I32 => encodeCvt .u24 .i32
  | .cvtU24I48 => encodeCvt .u24 .i48
  | .cvtU24I64 => encodeCvt .u24 .i64
  | .cvtU24U8 => encodeCvt .u24 .u8
  | .cvtU24U16 => encodeCvt .u24 .u16
  | .cvtU24U24 => encodeCvt .u24 .u24
  | .cvtU24U32 => encodeCvt .u24 .u32
  | .cvtU24U48 => encodeCvt .u24 .u48
  | .cvtU24U64 => encodeCvt .u24 .u64
  | .cvtU24F32 => encodeCvt .u24 .f32
  | .cvtU24F64 => encodeCvt .u24 .f64
  | .cvtU32I8 => encodeCvt .u32 .i8
  | .cvtU32I16 => encodeCvt .u32 .i16
  | .cvtU32I24 => encodeCvt .u32 .i24
  | .cvtU32I32 => encodeCvt .u32 .i32
  | .cvtU32I48 => encodeCvt .u32 .i48
  | .cvtU32I64 => encodeCvt .u32 .i64
  | .cvtU32U8 => encodeCvt .u32 .u8
  | .cvtU32U16 => encodeCvt .u32 .u16
  | .cvtU32U24 => encodeCvt .u32 .u24
  | .cvtU32U32 => encodeCvt .u32 .u32
  | .cvtU32U48 => encodeCvt .u32 .u48
  | .cvtU32U64 => encodeCvt .u32 .u64
  | .cvtU32F32 => encodeCvt .u32 .f32
  | .cvtU32F64 => encodeCvt .u32 .f64
  | .cvtU48I8 => encodeCvt .u48 .i8
  | .cvtU48I16 => encodeCvt .u48 .i16
  | .cvtU48I24 => encodeCvt .u48 .i24
  | .cvtU48I32 => encodeCvt .u48 .i32
  | .cvtU48I48 => encodeCvt .u48 .i48
  | .cvtU48I64 => encodeCvt .u48 .i64
  | .cvtU48U8 => encodeCvt .u48 .u8
  | .cvtU48U16 => encodeCvt .u48 .u16
  | .cvtU48U24 => encodeCvt .u48 .u24
  | .cvtU48U32 => encodeCvt .u48 .u32
  | .cvtU48U48 => encodeCvt .u48 .u48
  | .cvtU48U64 => encodeCvt .u48 .u64
  | .cvtU48F32 => encodeCvt .u48 .f32
  | .cvtU48F64 => encodeCvt .u48 .f64
  | .cvtU64I8 => encodeCvt .u64 .i8
  | .cvtU64I16 => encodeCvt .u64 .i16
  | .cvtU64I24 => encodeCvt .u64 .i24
  | .cvtU64I32 => encodeCvt .u64 .i32
  | .cvtU64I48 => encodeCvt .u64 .i48
  | .cvtU64I64 => encodeCvt .u64 .i64
  | .cvtU64U8 => encodeCvt .u64 .u8
  | .cvtU64U16 => encodeCvt .u64 .u16
  | .cvtU64U24 => encodeCvt .u64 .u24
  | .cvtU64U32 => encodeCvt .u64 .u32
  | .cvtU64U48 => encodeCvt .u64 .u48
  | .cvtU64U64 => encodeCvt .u64 .u64
  | .cvtU64F32 => encodeCvt .u64 .f32
  | .cvtU64F64 => encodeCvt .u64 .f64
  | .cvtF32I8 => encodeCvt .f32 .i8
  | .cvtF32I16 => encodeCvt .f32 .i16
  | .cvtF32I24 => encodeCvt .f32 .i24
  | .cvtF32I32 => encodeCvt .f32 .i32
  | .cvtF32I48 => encodeCvt .f32 .i48
  | .cvtF32I64 => encodeCvt .f32 .i64
  | .cvtF32U8 => encodeCvt .f32 .u8
  | .cvtF32U16 => encodeCvt .f32 .u16
  | .cvtF32U24 => encodeCvt .f32 .u24
  | .cvtF32U32 => encodeCvt .f32 .u32
  | .cvtF32U48 => encodeCvt .f32 .u48
  | .cvtF32U64 => encodeCvt .f32 .u64
  | .cvtF32F32 => encodeCvt .f32 .f32
  | .cvtF32F64 => encodeCvt .f32 .f64
  | .cvtF64I8 => encodeCvt .f64 .i8
  | .cvtF64I16 => encodeCvt .f64 .i16
  | .cvtF64I24 => encodeCvt .f64 .i24
  | .cvtF64I32 => encodeCvt .f64 .i32
  | .cvtF64I48 => encodeCvt .f64 .i48
  | .cvtF64I64 => encodeCvt .f64 .i64
  | .cvtF64U8 => encodeCvt .f64 .u8
  | .cvtF64U16 => encodeCvt .f64 .u16
  | .cvtF64U24 => encodeCvt .f64 .u24
  | .cvtF64U32 => encodeCvt .f64 .u32
  | .cvtF64U48 => encodeCvt .f64 .u48
  | .cvtF64U64 => encodeCvt .f64 .u64
  | .cvtF64F32 => encodeCvt .f64 .f32
  | .cvtF64F64 => encodeCvt .f64 .f64
  | .smpSin df dc => encodeSmp .sin df dc
  | .smpSaw df dc => encodeSmp .saw df dc
  | .smpTri df dc => encodeSmp .tri df dc
  | .smpSqr df dc => encodeSmp .sqr df dc
  | .smpCos df dc => encodeSmp .cos df dc
  | .oscCfg wk dc inst => encodeKindInst 0x11#8 wk dc inst
  | .oscNext df inst => encodeFmtInst 0x12#8 df inst
  | .oscAt df inst => encodeFmtInst 0x13#8 df inst
  | .tblBuild wk dc inst => encodeKindInst 0x18#8 wk dc inst
  | .tblAlloc wk dc => encodeKindInst 0x19#8 wk dc 0#8
  | .lutBind inst => encodeInst 0x1A#8 inst
  | .lutNext inst => encodeInst 0x1B#8 inst
  | .lutAt inst => encodeInst 0x1C#8 inst
  | .vsoSetMaster inst => encodeInst 0x20#8 inst
  | .vsoSetSlave inst => encodeInst 0x21#8 inst
  | .vsoSetPw inst => encodeInst 0x22#8 inst
  | .vsoSetShape inst => encodeInst 0x23#8 inst
  | .vsoSetSync g inst => encodeBoolInst 0x24#8 g inst
  | .vsoTick inst => encodeInst 0x25#8 inst
  | .envSetAttack inst => encodeInst 0x30#8 inst
  | .envSetDecay inst => encodeInst 0x31#8 inst
  | .envSetRelease inst => encodeInst 0x32#8 inst
  | .envSetSustain inst => encodeInst 0x33#8 inst
  | .envTick g inst => encodeBoolInst 0x34#8 g inst
  | .envStat inst => encodeInst 0x35#8 inst

/-- The three words of a command as the ports hold them (R20, R89). -/
structure CommandWords where
  cmd : BitVec 32
  opa : Word
  opb : Word
  deriving DecidableEq, Repr

/-- The words of a command whose bits are `w`, numbered from bit 0 of `CMD`: `CMD` is bits 31:0, `OPA` bits 95:32
and `OPB` bits 159:96; bits from `nbits` on are zero. -/
def commandOfBits (nbits w : Nat) : CommandWords :=
  let v := w % 2 ^ nbits
  { cmd := BitVec.ofNat 32 v, opa := BitVec.ofNat 64 (v / 2 ^ 32), opb := BitVec.ofNat 64 (v / 2 ^ 96) }

/-- The instruction the decoder reads from a command whose bits are `w`, none where it refuses. -/
def decodeTableWord (nbits w : Nat) : Option Instr := (decode (commandOfBits nbits w).cmd).toOption

end Sys2Proof
end

