-- ==== Sys2Proof/Config.lean ====
section
/-! DEFINITION. What an implementation of the block fixes: the configuration record of 00_scope.md R6 as data, and
the parameter functions and free values as constants without a body, of which nothing can be proved (92_eei_decisions.md
D5, D13, D19). Sys2Proof/Machine/Params.lean holds the functions to what the rules assume of every instance. -/

namespace Sys2Proof

/-- The data of the configuration record (R6). `N_PRIV` is the length of `privLen`. -/
structure Params where
  /-- `SAMPLE_RATE`: samples per second, and the length of every cache table. -/
  sampleRate : Nat
  /-- `CACHE_CAP`: entries of the table cache. -/
  cacheCap : Nat
  /-- `TABLE_FMT`: the Sample Format of every table entry. -/
  tableFmt : Fmt
  /-- `PRIV_LEN[j]`: the length of private buffer `j`. -/
  privLen : List Nat
  /-- `N_OSC`. -/
  nOsc : Nat
  /-- `N_LUT`. -/
  nLut : Nat
  /-- `N_VSO`. -/
  nVso : Nat
  /-- `N_ENV`. -/
  nEnv : Nat
  deriving DecidableEq, Repr

/-- `N_PRIV`. -/
def Params.nPriv (c : Params) : Nat := c.privLen.length

/-- The constraints of the table of R6. -/
abbrev Params.wf (c : Params) : Prop :=
  1 ≤ c.sampleRate ∧ c.sampleRate < 2 ^ 32 ∧ c.cacheCap ≤ 2 ^ 31 - 1 ∧ c.privLen.length ≤ 256 ∧
  (∀ n ∈ c.privLen, n < 2 ^ 32) ∧ c.nOsc ≤ 256 ∧ c.nLut ≤ 256 ∧ c.nVso ≤ 256 ∧ c.nEnv ≤ 256

/-- The binary32 operations that can produce a NaN (R9); a subtraction adds the negated operand. -/
inductive FloatOp where
  | add | mul | div
  deriving DecidableEq, Repr, Inhabited

/-- DESIGN CHOICE (log 1, unsafe): the record `State.reset` stands on, that of 95_test_vectors.md section 2.6 with that
file's general instance counts. The record is a field of the state, so every statement over all states covers
every record. -/
def Config.integrator : Params where
  sampleRate := 8
  cacheCap := 2
  tableFmt := .i16
  privLen := [8, 16]
  nOsc := 2
  nLut := 2
  nVso := 1
  nEnv := 1

/-- `SIN32` before it is held to R503 (log 4). -/
opaque Config.sinRaw : F32 → F32
/-- `COS32` before it is held to R503 (log 4). -/
opaque Config.cosRaw : F32 → F32
/-- `EXP32` before it is held to R604 (log 4). -/
opaque Config.expRaw : F32 → F32
/-- `LN32` before it is held to R604 (log 4). -/
opaque Config.lnRaw : F32 → F32
/-- `POW32` before it is held to R604 (log 4). -/
opaque Config.powRaw : F32 → F32 → F32
/-- `OOB` before its result is made a canonical word of the destination format (R122; log 5). -/
opaque Config.oobRaw : Fmt → Fmt → Word → Word
/-- Free value (log 6): the pattern of a NaN result before it is made one (R129 defines no NaN payload). -/
opaque Config.nanRaw : FloatOp → F32 → F32 → F32
/-- Free value (log 7): `frac32` of an argument on which R502 does not define it. -/
opaque Config.fracUndefined : F32 → F32
/-- Free value (log 12): the n-th undefined value stored by an envelope setter out of contract
(93_implementation_defined.md U6). -/
opaque Config.freeF32 : Nat → F32

end Sys2Proof
end

