-- ==== Sys2Proof/Machine/State.lean ====
section
/-! DEFINITION. The state of the block (10_state.md), its status codes, the reasons a step can stop, and reset. -/

namespace Sys2Proof.Machine

/-- The status codes of `ST` (R700): 0, 1, 2, 3 in this order. -/
inductive Status where
  | ok | incorrectSize | tableFull | illegal
  deriving DecidableEq, Repr, Inhabited

/-- The states of an envelope (R29, R601): codes 0, 1, 2, 3 in this order. -/
inductive Stage where
  | init | attack | decay | release
  deriving DecidableEq, Repr, Inhabited

/-- The registers of a runtime oscillator `OSC[i]` (R25). -/
structure Osc where
  cfg : Bool := false
  kind : Wave := .sin
  duty : Duty := .d125
  freq : F32 := 0#32
  phase : F32 := 0#32
  deriving DecidableEq, Repr, Inhabited

/-- The registers of a lookup-table reader `LUT[i]` (R26). -/
structure Lut where
  bound : Bool := false
  tbl : Handle := 0#32
  idx : BitVec 32 := 0#32
  deriving DecidableEq, Repr, Inhabited

/-- The registers of a variable-shape oscillator `VSO[i]` (R27, R28). `undef` is the model's own (log 11): bit `k` is 1
once setter `k` has been given an operand out of contract, until reset. -/
structure Vso where
  mph : F32 := 0#32
  sph : F32 := 0#32
  high : Bool := false
  prevPw : F32 := 0x3F000000#32
  next : F32 := 0#32
  mfreq : F32 := 0#32
  sfreq : F32 := 0#32
  pwReq : F32 := 0#32
  shape : F32 := 0#32
  sync : Bool := false
  wr : BitVec 5 := 0#5
  undef : BitVec 5 := 0#5
  deriving DecidableEq, Repr, Inhabited

/-- The registers of an envelope `ENV[i]` (R29, R30). `undef` is the model's own (log 12): bit `k` is 1
once setter `k` has been given an operand out of contract, until reset. -/
structure Env where
  state : Stage := .init
  x : F32 := 0#32
  gatePrev : Bool := false
  d0a : F32 := 0#32
  level : F32 := 0#32
  d0d : F32 := 0#32
  d0r : F32 := 0#32
  sus : F32 := 0#32
  wr : BitVec 4 := 0#4
  undef : BitVec 4 := 0#4
  deriving DecidableEq, Repr, Inhabited

/-- The tag of a cache entry, `TAG[e]` (R31). -/
structure Tag where
  kind : Wave := .sin
  duty : Duty := .d125
  freq : F32 := 0#32
  deriving DecidableEq, Repr, Inhabited

/-- The table memory (R60): the entries that have been written, each a key (`cellKey` of its table's handle and its
index) and an entry word, keys strictly rising. An entry that is not listed has no value (log 9, log 17). -/
abbrev Memory := List (Nat × Word)

/-- The canonical form of the memory: keys strictly rising, so that equal memories are equal data. -/
abbrev Memory.wf (m : Memory) : Prop := m.Pairwise (fun a b => a.1 < b.1)

/-- The state of the block: the ports (R20), the instance files (R25 to R30), the cache tags (R31), the private
buffer flags (R32) and the table memory (R33). `cfg`, `rst` and `freeCount` are the model's own: the configuration
record (log 1), the host's reset input (log 3) and the count of free values drawn (log 12). -/
structure State where
  cfg : Params
  rst : Bool
  cmd : BitVec 32
  opa : Word
  opb : Word
  res : Word
  st : Status
  osc : List Osc
  lut : List Lut
  vso : List Vso
  env : List Env
  cnt : Nat
  tags : List Tag
  privOk : List Bool
  mem : Memory
  freeCount : Nat
  deriving DecidableEq, Repr

/-- Why the machine stops with a fault. -/
inductive Fault where
  /-- Raised by `LUT.NEXT` and `LUT.AT` when the entry they address has never been written. The block's guards make this
  impossible in every state that keeps the invariant (R35, R65). Safe: the model stops where no reset value is given. -/
  | unwrittenEntry
  deriving DecidableEq, Repr

/-- Why the machine refuses a command: the spec defines neither a result nor a next state for it. -/
inductive Refusal where
  /-- Raised by an arm of `exec` whose instruction has no meaning yet. Safe. -/
  | notModelled (mnemonic : String)
  /-- Raised by `SMP`, `OSC.NEXT`, `OSC.AT`, `TBL.BUILD` and `TBL.ALLOC` on a frequency out of contract (R504,
  93_implementation_defined.md U4). Safe. -/
  | frequencyOutOfContract
  /-- Raised by `VSO.TICK` once a setter of the instance has been given an operand out of contract since reset, and on stored
  parameters out of contract (R576, 93_implementation_defined.md U5). Safe. -/
  | vsoParameterOutOfContract
  /-- Raised by `ENV.TICK` once a setter of the instance has been given an operand out of contract since reset (R769,
  93_implementation_defined.md U6). Safe. -/
  | envParameterOutOfContract
  deriving DecidableEq, Repr

/-- What a command or a step answers. -/
abbrev Result := Host.Outcome State Fault Refusal

/-- The block right after reset, for a configuration record (R35, R750). Registers to which the spec gives no reset
value are zero (DESIGN CHOICE, log 8, unsafe). -/
def State.resetWith (c : Params) : State where
  cfg := c
  rst := false
  cmd := 0#32
  opa := 0#64
  opb := 0#64
  res := 0#64
  st := .ok
  osc := List.replicate c.nOsc {}
  lut := List.replicate c.nLut {}
  vso := List.replicate c.nVso {}
  env := List.replicate c.nEnv {}
  cnt := 0
  tags := List.replicate c.cacheCap {}
  privOk := List.replicate c.privLen.length false
  mem := []
  freeCount := 0

/-- The block right after reset. -/
def State.reset : State := State.resetWith Config.integrator

end Sys2Proof.Machine
end

