-- ==== Sys2Proof/Machine/Flags.lean ====
section
/-! DEFINITION. The status code `ST` and the one-bit flags of the instances (10_state.md R24, 60_exceptions.md R700). -/

namespace Sys2Proof.Machine

/-- The 2-bit code of a status (R700). -/
def Status.code : Status → BitVec 2
  | .ok => 0#2
  | .incorrectSize => 1#2
  | .tableFull => 2#2
  | .illegal => 3#2

/-- The 2-bit code of an envelope state (R29, R601). -/
def Stage.code : Stage → BitVec 2
  | .init => 0#2
  | .attack => 1#2
  | .decay => 2#2
  | .release => 3#2

/-- The end of a command: `ST` and `RES` are written, nothing else (R700). -/
def finish (s : State) (st : Status) (res : Word) : State := { s with st := st, res := res }

/-- A written-flags register with bit `k` set. -/
def setFlag {n : Nat} (w : BitVec n) (k : Nat) : BitVec n := w ||| (1#n <<< k)

/-- The marks after setter `k` has been given an operand: bit `k` is set when the operand is out of contract. Nothing clears
a mark but reset (93_implementation_defined.md U5, U6). -/
def markUndef {n : Nat} (w : BitVec n) (k : Nat) (ok : Bool) : BitVec n := if ok then w else setFlag w k

/-- All five parameters of a variable-shape oscillator have been written: `wr = 0b11111` (R28). -/
def vsoWritten (v : Vso) : Bool := v.wr == 0b11111#5

/-- All four parameter sets of an envelope have been written: `wr = 0b1111` (R30). -/
def envWritten (e : Env) : Bool := e.wr == 0b1111#4

end Sys2Proof.Machine
end

