-- ==== Sys2Proof/Machine/Float.lean ====
section
/-! DEFINITION. Binary32 and binary64 as the block uses them (00_scope.md R9, 40_convert.md R129): values of patterns,
one rounding to nearest with ties to even, the operators `+32`, `-32`, `*32`, `/32`, and the ordered comparisons.
Finite values are counted in units of the least subnormal (2^-149, 2^-1074), so that all arithmetic before the one
rounding is exact arithmetic of natural numbers and integers. The layout of the formats is that of IEEE 754 (PRESUMED,
log 16; 93_implementation_defined.md G1). -/

namespace Sys2Proof.Machine

/-- The quotient `n / d` rounded to an integer, ties to the even one (R9). -/
def roundEven (n d : Nat) : Nat :=
  if d < 2 * (n % d) ∨ (2 * (n % d) = d ∧ n / d % 2 = 1) then n / d + 1 else n / d

/-- The magnitude pattern nearest the real `n / d`, counted in units of the least subnormal, with `p` significand bits,
gradual underflow, and the infinity pattern `inf` at or above the overflow threshold (R9). Above the subnormals the
quotient is rounded on a grid of `2 ^ shift` units; the significand's hidden bit then adds 1 to the exponent field
`shift`, and a significand that rounds up to `2 ^ p` carries into it. -/
def rnMag (p inf n d : Nat) : Nat :=
  let shift := Nat.log2 (n / d) - (p - 1)
  min (shift * 2 ^ (p - 1) + roundEven n (d * 2 ^ shift)) inf

/-- The value of a magnitude pattern in units of the least subnormal: exponent field 0 is subnormal, `e > 0` has the
hidden bit. -/
def magUnits (p m : Nat) : Nat :=
  if m / 2 ^ (p - 1) = 0 then m else (2 ^ (p - 1) + m % 2 ^ (p - 1)) * 2 ^ (m / 2 ^ (p - 1) - 1)

/-- The binary32 magnitude pattern of infinity. -/
def inf32 : Nat := 0x7F800000
/-- The binary64 magnitude pattern of infinity. -/
def inf64 : Nat := 0x7FF0000000000000

/-- The sign bit of a binary32. -/
def sign32 (x : F32) : Bool := x.msb
/-- The magnitude pattern of a binary32: its bits [30:0]. -/
def mag32 (x : F32) : Nat := x.toNat % 2 ^ 31
/-- A NaN: exponent all ones, fraction nonzero. -/
def isNaN32 (x : F32) : Bool := decide (inf32 < mag32 x)
/-- An infinity. -/
def isInf32 (x : F32) : Bool := decide (mag32 x = inf32)
/-- A finite value: neither a NaN nor an infinity. -/
def isFin32 (x : F32) : Bool := decide (mag32 x < inf32)
/-- The magnitude of a finite binary32 in units of 2^-149. -/
def units32 (x : F32) : Nat := magUnits 24 (mag32 x)
/-- The value of a finite binary32 in units of 2^-149. -/
def int32 (x : F32) : Int := if sign32 x then -(units32 x : Int) else (units32 x : Int)
/-- The binary32 of a sign and a magnitude pattern. -/
def pack32 (neg : Bool) (mag : Nat) : F32 := BitVec.ofNat 32 (if neg then 2 ^ 31 + mag else mag)
/-- `RN32` of the real `num / den`, negated if `neg` (R9). -/
def rn32 (neg : Bool) (num den : Nat) : F32 := pack32 neg (rnMag 24 inf32 (num * 2 ^ 149) den)

/-- The sign bit of a binary64. -/
def sign64 (x : F64) : Bool := x.msb
/-- The magnitude pattern of a binary64: its bits [62:0]. -/
def mag64 (x : F64) : Nat := x.toNat % 2 ^ 63
/-- A NaN in binary64. -/
def isNaN64 (x : F64) : Bool := decide (inf64 < mag64 x)
/-- The magnitude of a finite binary64 in units of 2^-1074. -/
def units64 (x : F64) : Nat := magUnits 53 (mag64 x)
/-- The value of a finite binary64 in units of 2^-1074. -/
def int64 (x : F64) : Int := if sign64 x then -(units64 x : Int) else (units64 x : Int)
/-- An infinity in binary64. -/
def isInf64 (x : F64) : Bool := decide (mag64 x = inf64)
/-- A finite binary64. -/
def isFin64 (x : F64) : Bool := decide (mag64 x < inf64)
/-- The binary64 of a sign and a magnitude pattern. -/
def pack64 (neg : Bool) (mag : Nat) : F64 := BitVec.ofNat 64 (if neg then 2 ^ 63 + mag else mag)
/-- `RN64` of the real `num / den`, negated if `neg` (R9). -/
def rn64 (neg : Bool) (num den : Nat) : F64 := pack64 neg (rnMag 53 inf64 (num * 2 ^ 1074) den)

/-- The binary32 `+0.0`. -/
def zero32 : F32 := 0x00000000#32
/-- The binary32 `1.0`. -/
def one32 : F32 := 0x3F800000#32
/-- The binary32 `-1.0`. -/
def negOne32 : F32 := 0xBF800000#32
/-- The binary32 `0.5`. -/
def half32 : F32 := 0x3F000000#32
/-- The binary32 `2.0`. -/
def two32 : F32 := 0x40000000#32

/-- The order key of a binary32: its magnitude pattern with its sign. On values that are not NaNs it orders as the
values do, and both zeros have key 0. -/
def key32 (x : F32) : Int := if sign32 x then -(mag32 x : Int) else (mag32 x : Int)
/-- The order key of a binary64. -/
def key64 (x : F64) : Int := if sign64 x then -(mag64 x : Int) else (mag64 x : Int)

/-- `a < b`, the ordered comparison: false if either is a NaN (R9). -/
def lt32 (a b : F32) : Bool := !isNaN32 a && !isNaN32 b && decide (key32 a < key32 b)
/-- `a <= b`, the ordered comparison: false if either is a NaN (R9). -/
def le32 (a b : F32) : Bool := !isNaN32 a && !isNaN32 b && decide (key32 a ≤ key32 b)
/-- `a < b` in binary64, false if either is a NaN. -/
def lt64 (a b : F64) : Bool := !isNaN64 a && !isNaN64 b && decide (key64 a < key64 b)
/-- `a <= b` in binary64, false if either is a NaN. -/
def le64 (a b : F64) : Bool := !isNaN64 a && !isNaN64 b && decide (key64 a ≤ key64 b)

/-- A NaN result: some NaN pattern, a free value (R9 says a NaN results, R129 which one is not defined; log 6). -/
def nan32 (op : FloatOp) (a b : F32) : F32 :=
  let r := Config.nanRaw op a b
  if isNaN32 r then r else r ||| 0x7FC00000#32

/-- The value with its sign bit inverted. -/
def neg32 (x : F32) : F32 := x ^^^ 0x80000000#32

/-- `abs32`: the sign bit cleared (R9). -/
def abs32 (x : F32) : F32 := x &&& 0x7FFFFFFF#32

/-- `max32(a, b)`: `a` if `a > b`, else `b` (R9). -/
def max32 (a b : F32) : F32 := if lt32 b a then a else b

/-- `a +32 b` (R9): the exact sum rounded once; `inf + -inf` is a NaN; an exact zero is `-0.0` only from two negative
zeros. -/
def add32 (a b : F32) : F32 :=
  if isNaN32 a || isNaN32 b then nan32 .add a b
  else if isInf32 a then (if isInf32 b && (sign32 a != sign32 b) then nan32 .add a b else a)
  else if isInf32 b then b
  else
    let k := int32 a + int32 b
    if k = 0 then pack32 (sign32 a && sign32 b) 0 else rn32 (decide (k < 0)) k.natAbs (2 ^ 149)

/-- `a -32 b` (R9): the sum with the negated operand. -/
def sub32 (a b : F32) : F32 := add32 a (neg32 b)

/-- `a *32 b` (R9): the exact product rounded once; `0 * inf` is a NaN; the sign is the product of the signs. -/
def mul32 (a b : F32) : F32 :=
  let neg := sign32 a != sign32 b
  if isNaN32 a || isNaN32 b then nan32 .mul a b
  else if isInf32 a then (if mag32 b = 0 then nan32 .mul a b else pack32 neg inf32)
  else if isInf32 b then (if mag32 a = 0 then nan32 .mul a b else pack32 neg inf32)
  else rn32 neg (units32 a * units32 b) (2 ^ 298)

/-- `a /32 b` (R9): the exact quotient rounded once; `0 / 0` and `inf / inf` are NaNs; a nonzero value over zero is an
infinity; the sign is the product of the signs. -/
def div32 (a b : F32) : F32 :=
  let neg := sign32 a != sign32 b
  if isNaN32 a || isNaN32 b then nan32 .div a b
  else if isInf32 a then (if isInf32 b then nan32 .div a b else pack32 neg inf32)
  else if isInf32 b then pack32 neg 0
  else if mag32 b = 0 then (if mag32 a = 0 then nan32 .div a b else pack32 neg inf32)
  else rn32 neg (units32 a) (units32 b)

/-- `frac32(p)` (R502): `p - floor(p)` for a finite `p >= 0`, `-0.0` counting as 0. On any other argument the rule
defines no value and the result is a free value (log 7). -/
def frac32 (p : F32) : F32 :=
  if isFin32 p && (!sign32 p || decide (mag32 p = 0)) then rn32 false (units32 p % 2 ^ 149) (2 ^ 149)
  else Config.fracUndefined p

end Sys2Proof.Machine
end

