-- ==== Sys2Proof/Machine/Params.lean ====
section
/-! DEFINITION. The parameter functions of 00_scope.md R6 as the block calls them: each constant of Config held to
exactly what the rules assume of every instance (46_waveform.md R503, 49_adsr.md R604, 40_convert.md R122). Every function
that satisfies the assumptions is left as it is, so a statement about these covers every instance (log 4, log 5). -/

namespace Sys2Proof.Machine

/-- `lo <= y <= hi` in the ordered comparison. -/
def within32 (lo y hi : F32) : Bool := le32 lo y && le32 y hi

/-- `SIN32` (R503): `SIN32(+0.0) = +0.0`; for a finite argument a value in [-1.0, +1.0]. -/
def sin32 (x : F32) : F32 :=
  let y := Config.sinRaw x
  if x = zero32 then zero32
  else if isFin32 x && !within32 negOne32 y one32 then zero32
  else y

/-- `COS32` (R503): `COS32(+0.0) = 1.0`; for a finite argument a value in [-1.0, +1.0]. -/
def cos32 (x : F32) : F32 :=
  let y := Config.cosRaw x
  if x = zero32 then one32
  else if isFin32 x && !within32 negOne32 y one32 then one32
  else y

/-- The binary32 negative infinity. -/
def negInf32 : F32 := 0xFF800000#32

/-- `EXP32` (R604): 1.0 at either zero, `+0.0` at `-inf`, and in [0.0, 1.0] below zero. -/
def exp32 (x : F32) : F32 :=
  let y := Config.expRaw x
  if mag32 x = 0 then one32
  else if x = negInf32 then zero32
  else if lt32 x zero32 && !within32 zero32 y one32 then zero32
  else y

/-- `LN32` (R604): a finite value below zero for an argument strictly between 0 and 1. -/
def ln32 (x : F32) : F32 :=
  let y := Config.lnRaw x
  if (lt32 zero32 x && lt32 x one32) && !(isFin32 y && lt32 y zero32) then negOne32 else y

/-- The binary32 `10.0`, the exponent of the attack level function (R603). -/
def ten32 : F32 := 0x41200000#32

/-- `POW32` (R604): with exponent 10.0, `+0.0` at 0.0, 1.0 at 1.0, and in [0.0, 1.0] for an argument in [0, 1]. -/
def pow32 (x y : F32) : F32 :=
  let r := Config.powRaw x y
  if y = ten32 then
    if x = zero32 then zero32
    else if x = one32 then one32
    else if within32 zero32 x one32 && !within32 zero32 r one32 then zero32
    else r
  else r

/-- The canonical word of a format with the low bits of `w` (R115): sign-extended for a signed format, zero-extended for
an unsigned one and for binary32. -/
def canonical (f : Fmt) (w : Word) : Word :=
  match f with
  | .i8 => (w.setWidth 8).signExtend 64
  | .i16 => (w.setWidth 16).signExtend 64
  | .i24 => (w.setWidth 24).signExtend 64
  | .i32 => (w.setWidth 32).signExtend 64
  | .i48 => (w.setWidth 48).signExtend 64
  | .i64 => w
  | .u8 => (w.setWidth 8).setWidth 64
  | .u16 => (w.setWidth 16).setWidth 64
  | .u24 => (w.setWidth 24).setWidth 64
  | .u32 => (w.setWidth 32).setWidth 64
  | .u48 => (w.setWidth 48).setWidth 64
  | .u64 => w
  | .f32 => (w.setWidth 32).setWidth 64
  | .f64 => w

/-- `OOB(SF, DF, word)` (R122): some canonical word of `DF`, a function of the two formats and of the operand's own bits
alone: what a word holds above the width of `SF` is ignored (R87, R111; log 5). -/
def oob (sf df : Fmt) (w : Word) : Word := canonical df (Config.oobRaw sf df (canonical sf w))

end Sys2Proof.Machine
end

