-- ==== Sys2Proof/Machine/Operands.lean ====
section
/-! DEFINITION. The operand forms (10_state.md R22, 30_encoding.md R87): samples in a word (40_convert.md R110 to R115),
a binary32, an index and a handle taken from the ports, and the values of the code fields. -/

namespace Sys2Proof

/-- `n(F)`: the width in bits of a format (R82, R110). -/
def Fmt.width : Fmt → Nat
  | .i8 => 8
  | .i16 => 16
  | .i24 => 24
  | .i32 => 32
  | .i48 => 48
  | .i64 => 64
  | .u8 => 8
  | .u16 => 16
  | .u24 => 24
  | .u32 => 32
  | .u48 => 48
  | .u64 => 64
  | .f32 => 32
  | .f64 => 64

/-- A signed integer format (R82). -/
def Fmt.isSigned : Fmt → Bool
  | .i8 | .i16 | .i24 | .i32 | .i48 | .i64 => true
  | .u8 | .u16 | .u24 | .u32 | .u48 | .u64 => false
  | .f32 | .f64 => false

/-- A floating-point format (R82). -/
def Fmt.isFloat : Fmt → Bool
  | .f32 | .f64 => true
  | .i8 | .i16 | .i24 | .i32 | .i48 | .i64 => false
  | .u8 | .u16 | .u24 | .u32 | .u48 | .u64 => false

/-- An integer format (R82). -/
def Fmt.isInt (f : Fmt) : Bool := !f.isFloat

/-- `DUTY(code)`: the binary32 the phase is compared with (R84). -/
def Duty.value : Duty → F32
  | .d125 => 0x3E000000#32
  | .d250 => 0x3E800000#32
  | .d330 => 0x3EA8F5C3#32
  | .d500 => 0x3F000000#32

namespace Machine

/-- `val(F, w)` of an integer format: the low `n` bits as two's complement or unsigned (R112). -/
def sampleVal (f : Fmt) (w : Word) : Int :=
  if f.isSigned then (w.setWidth f.width).toInt else ((w.setWidth f.width).toNat : Int)

/-- `sd(F, w)`: the value of an integer sample without the bias of an unsigned format (R113). -/
def signedVal (f : Fmt) (w : Word) : Int :=
  if f.isSigned then sampleVal f w else sampleVal f w - 2 ^ (f.width - 1)

/-- `enc(F, v)` of an integer format for a `v` in its range: `v` as a 64-bit two's complement word (R115). -/
def encInt (v : Int) : Word := BitVec.ofInt 64 v

/-- The integer sample of format `f` whose signed-domain value is `t`: the bias of an unsigned format is added back
(R117, R119). -/
def encSigned (f : Fmt) (t : Int) : Word := encInt (if f.isSigned then t else t + 2 ^ (f.width - 1))

/-- `val(F32, w)`: bits [31:0] (R112). -/
def f32Of (w : Word) : F32 := w.setWidth 32

/-- `enc(F32, y)`: the pattern with bits [63:32] zero (R115). -/
def encF32 (y : F32) : Word := y.setWidth 64

/-- A binary32 parameter in `OPA[31:0]`, bits [63:32] ignored (R22). -/
def opaF32 (s : State) : F32 := f32Of s.opa

/-- A binary32 parameter in `OPB[31:0]`, bits [63:32] ignored (R22). -/
def opbF32 (s : State) : F32 := f32Of s.opb

/-- An index in `OPA`: all 64 bits, unsigned (R22). -/
def opaIndex (s : State) : Nat := s.opa.toNat

/-- A handle in `OPA[31:0]`, bits [63:32] ignored (R22). -/
def opaHandle (s : State) : Handle := s.opa.setWidth 32

/-- The float contract of R114: not a NaN and `-1.0 <= x < 1.0`. Integer samples are always in contract. -/
def inContract (f : Fmt) (w : Word) : Bool :=
  match f with
  | .f32 => le32 negOne32 (f32Of w) && lt32 (f32Of w) one32
  | .f64 => le64 0xBFF0000000000000#64 w && lt64 w 0x3FF0000000000000#64
  | _ => true

end Machine

end Sys2Proof
end

