-- ==== Sys2Proof/Machine/Ops.lean ====
section
/-! DEFINITION. The named operations over the state: ending a command, raising an error, the host's presenting a
command and its reset, the instance files, and the table memory. -/

namespace Sys2Proof.Machine

/-- `return v` (R12): `ST <- 0`, `RES <- v`. -/
def retOk (s : State) (res : Word) : Result := .next (finish s .ok res)

/-- `raise <Error>(info)` (R12, R700, R703): the one shared operation by which a command ends in an error. `ST` takes the
error's code, `RES` its payload, and nothing else changes; no state is saved, no mode changes and control goes nowhere
(R711). There is no operation that returns from it (R712). -/
def raise (s : State) (e : Status) (info : Word) : Result := .next (finish s e info)

/-- `raise Illegal`: `ST <- 3`, `RES <- 0` (R88, R702). -/
def raiseIllegal (s : State) : Result := raise s .illegal 0#64

/-- The payload of `IncorrectSize`: expected in bits [63:32], actual in bits [31:0] (R700). -/
def sizePayload (expected actual : Nat) : Word := BitVec.ofNat 32 expected ++ BitVec.ofNat 32 actual

/-- The command word on the port: what the block takes as its next command (R20, R23). -/
def fetchCommand (s : State) : BitVec 32 := s.cmd

/-- The host presents a command: the three input ports take its words, and the reset input is not asserted
(R20, R772). -/
def present (s : State) (c : CommandWords) : State := { s with rst := false, cmd := c.cmd, opa := c.opa, opb := c.opb }

/-- The reset event (R750): every register at its value of R35, the configuration record and the host's inputs as they
were. The count of free values goes on, so that none is drawn twice (log 12). -/
def hostReset (s : State) : State :=
  { State.resetWith s.cfg with
    rst := s.rst, cmd := s.cmd, opa := s.opa, opb := s.opb, freeCount := s.freeCount }

/-- `OSC[i]`, none when `i` is not below `N_OSC` (R25, R85). -/
def getOsc (s : State) (i : BitVec 8) : Option Osc := if i.toNat < s.cfg.nOsc then s.osc[i.toNat]? else none
/-- `LUT[i]`, none when `i` is not below `N_LUT` (R26, R85). -/
def getLut (s : State) (i : BitVec 8) : Option Lut := if i.toNat < s.cfg.nLut then s.lut[i.toNat]? else none
/-- `VSO[i]`, none when `i` is not below `N_VSO` (R27, R85). -/
def getVso (s : State) (i : BitVec 8) : Option Vso := if i.toNat < s.cfg.nVso then s.vso[i.toNat]? else none
/-- `ENV[i]`, none when `i` is not below `N_ENV` (R29, R85). -/
def getEnv (s : State) (i : BitVec 8) : Option Env := if i.toNat < s.cfg.nEnv then s.env[i.toNat]? else none

/-- Write the registers of `OSC[i]`. -/
def putOsc (s : State) (i : BitVec 8) (o : Osc) : State := { s with osc := s.osc.set i.toNat o }
/-- Write the registers of `LUT[i]`. -/
def putLut (s : State) (i : BitVec 8) (l : Lut) : State := { s with lut := s.lut.set i.toNat l }
/-- Write the registers of `VSO[i]`. -/
def putVso (s : State) (i : BitVec 8) (v : Vso) : State := { s with vso := s.vso.set i.toNat v }
/-- Write the registers of `ENV[i]`. -/
def putEnv (s : State) (i : BitVec 8) (e : Env) : State := { s with env := s.env.set i.toNat e }

/-- `n` free values have been drawn (log 12). -/
def drawFree (s : State) (n : Nat) : State := { s with freeCount := s.freeCount + n }

/-- The handle of `C(e)`: bit 31 = 0, bits [30:0] = e (R62). -/
def cacheHandle (e : Nat) : Handle := 0#1 ++ BitVec.ofNat 31 e
/-- The handle of `P(j)`: bit 31 = 1, bits [30:0] = j (R62). -/
def privHandle (j : Nat) : Handle := 1#1 ++ BitVec.ofNat 31 j
/-- A handle names a private buffer: bit 31 (R62). -/
def isPrivHandle (h : Handle) : Bool := h.msb
/-- Bits [30:0] of a handle: the entry or buffer it names (R62). -/
def handleIndex (h : Handle) : Nat := h.toNat % 2 ^ 31

/-- A handle is valid: it names `C(e)` with `e < CNT`, or `P(j)` with `j < N_PRIV` and `PRIV_OK[j] = 1` (R62). -/
def handleValid (s : State) (h : Handle) : Bool :=
  if isPrivHandle h then decide (handleIndex h < s.cfg.nPriv) && s.privOk[handleIndex h]? == some true
  else decide (handleIndex h < s.cnt)

/-- The key of entry `i` of the table that `h` names (R60, R62; log 17). -/
def cellKey (h : Handle) (i : BitVec 32) : Nat := h.toNat * 2 ^ 32 + i.toNat

/-- The entry word with key `k`, none if nothing has written it. -/
def memLookup (k : Nat) : Memory → Option Word
  | [] => none
  | (a, w) :: rest => if a = k then some w else memLookup k rest

/-- `MemRead(t, i)` (R11). -/
def memRead (m : Memory) (h : Handle) (i : BitVec 32) : Option Word := memLookup (cellKey h i) m

/-- The entries of a table whose words are given from key `k` on. -/
def tableCells (k : Nat) : List Word → Memory
  | [] => []
  | w :: ws => (k, w) :: tableCells (k + 1) ws

/-- Write all entries of the table that `h` names (R11, R63, R66): entry `i` takes the `i`-th word, whatever the table held
is replaced (R69), and every other table is as before. -/
def memFill (m : Memory) (h : Handle) (ws : List Word) : Memory :=
  let base := h.toNat * 2 ^ 32
  m.filter (fun c => decide (c.1 < base)) ++ tableCells base ws ++ m.filter (fun c => decide (base + 2 ^ 32 ≤ c.1))

/-- Fill the table that `h` names. -/
def fillTable (s : State) (h : Handle) (ws : List Word) : State := { s with mem := memFill s.mem h ws }

/-- `PRIV_OK[j] <- 1` (R32). -/
def markPrivOk (s : State) (j : Nat) : State := { s with privOk := s.privOk.set j true }

/-- A new cache entry: `TAG[CNT]` is written and `CNT` is one more (R31, R546). -/
def pushTag (s : State) (t : Tag) : State := { s with tags := s.tags.set s.cnt t, cnt := s.cnt + 1 }

end Sys2Proof.Machine
end

