-- ==== Sys2Proof/Machine/Convert.lean ====
section
/-! DEFINITION. The conversion engine (40_convert.md): the four classes of conversion and the command all `CVT` rows
share. -/

namespace Sys2Proof.Machine

/-- The signed-domain value moved from width `n` to width `m`: shift left with zero fill, or drop the low bits, which is
the floor (R117). -/
def rescale (n m : Nat) (s : Int) : Int := if n ≤ m then s * 2 ^ (m - n) else s / 2 ^ (n - m)

/-- Integer to integer, `enc(B, ii(A, B, w))` (R117). -/
def cvtIntInt (a b : Fmt) (w : Word) : Word := encSigned b (rescale a.width b.width (signedVal a w))

/-- Integer to binary32, `RN32(s / 2^(n-1))` (R118). -/
def cvtIntF32 (a : Fmt) (w : Word) : F32 :=
  let s := signedVal a w
  rn32 (decide (s < 0)) s.natAbs (2 ^ (a.width - 1))

/-- Integer to binary64, `RN64(s / 2^(n-1))` (R118). -/
def cvtIntF64 (a : Fmt) (w : Word) : F64 :=
  let s := signedVal a w
  rn64 (decide (s < 0)) s.natAbs (2 ^ (a.width - 1))

/-- The magnitude `t` with a sign. -/
def signedNat (neg : Bool) (t : Nat) : Int := if neg then -(t : Int) else (t : Int)

/-- Binary32 to integer: the exact product with `2^(m-1)` truncated toward zero, then the bias (R119). -/
def cvtF32Int (b : Fmt) (x : F32) : Word :=
  encSigned b (signedNat (sign32 x) (units32 x * 2 ^ (b.width - 1) / 2 ^ 149))

/-- Binary64 to integer: the exact product with `2^(m-1)` truncated toward zero, then the bias (R119). -/
def cvtF64Int (b : Fmt) (x : F64) : Word :=
  encSigned b (signedNat (sign64 x) (units64 x * 2 ^ (b.width - 1) / 2 ^ 1074))

/-- Binary32 to binary64: the same real value, which binary64 holds exactly; the sign of a zero is kept (R120). -/
def cvtF32F64 (x : F32) : F64 := rn64 (sign32 x) (units32 x) (2 ^ 149)

/-- Binary64 to binary32: `RN32(x)` with gradual underflow (R120). -/
def cvtF64F32 (x : F64) : F32 := rn32 (sign64 x) (units64 x) (2 ^ 1074)

/-- The result word of `CVT` for an operand in contract: one of the four classes (R116 to R121). -/
def cvtWord (sf df : Fmt) (w : Word) : Word :=
  match sf, df with
  | .f32, .f32 => encF32 (f32Of w)
  | .f32, .f64 => cvtF32F64 (f32Of w)
  | .f64, .f32 => encF32 (cvtF64F32 w)
  | .f64, .f64 => w
  | .f32, b => cvtF32Int b (f32Of w)
  | .f64, b => cvtF64Int b w
  | a, .f32 => encF32 (cvtIntF32 a w)
  | a, .f64 => cvtIntF64 a w
  | a, b => cvtIntInt a b w

/-- The result word of `CVT` for any operand: `OOB` when a floating-point operand is out of contract (R116, R122). -/
def cvtResult (sf df : Fmt) (w : Word) : Word :=
  if sf.isFloat && !inContract sf w then oob sf df w else cvtWord sf df w

/-- `CVT.<SF>.<DF>` (R116): `RES` takes the converted word, `ST <- 0`, no other state is read or written. -/
def convert (sf df : Fmt) (s : State) : Result := retOk s (cvtResult sf df s.opa)

end Sys2Proof.Machine
end

