-- ==== Sys2Proof/Machine/Wave.lean ====
section
/-! DEFINITION. The waveform generators (46_waveform.md): phase, waveform functions and output stage, the five `SMP`
commands and the runtime oscillator `OSC`. -/

namespace Sys2Proof.Machine

/-- `RATE32 = RN32(SAMPLE_RATE)` (R501). -/
def rate32 (c : Params) : F32 := rn32 false c.sampleRate 1

/-- `TWO_PI` (R502). -/
def twoPi32 : F32 := 0x40C90FDB#32

/-- The product `p` of R501, before its fractional part is taken: `(RN32(index) /32 RATE32) *32 freq`. -/
def cycles32 (c : Params) (index : Nat) (freq : F32) : F32 :=
  mul32 (div32 (rn32 false index 1) (rate32 c)) freq

/-- `PHASE(index, freq)` (R501). -/
def phase32 (c : Params) (index : Nat) (freq : F32) : F32 := frac32 (cycles32 c index freq)

/-- The part of the frequency contract that concerns the frequency alone: finite and `>= 0` (R504). -/
def freqInContract (freq : F32) : Bool := isFin32 freq && le32 zero32 freq

/-- The frequency contract for an index: besides, the product `p` is finite (R504). -/
def phaseInContract (c : Params) (index : Nat) (freq : F32) : Bool :=
  freqInContract freq && isFin32 (cycles32 c index freq)

/-- `WAVE(SIN, ph, duty)` (R505). -/
def waveSin (ph : F32) : F32 := sin32 (mul32 ph twoPi32)
/-- `WAVE(SAW, ph, duty)` (R505). -/
def waveSaw (ph : F32) : F32 := sub32 (mul32 two32 ph) one32
/-- `WAVE(TRI, ph, duty)` (R505); `0x40800000` is 4.0. -/
def waveTri (ph : F32) : F32 := sub32 one32 (mul32 0x40800000#32 (abs32 (sub32 ph half32)))
/-- `WAVE(SQR, ph, duty)` (R505). -/
def waveSqr (ph : F32) (dc : Duty) : F32 := if lt32 ph dc.value then one32 else negOne32
/-- `WAVE(COS, ph, duty)` (R507). -/
def waveCos (ph : F32) : F32 := cos32 (mul32 ph twoPi32)

/-- `WAVE(kind, ph, duty)` (R505, R507): the duty is read by the square only. -/
def wave32 (wk : Wave) (ph : F32) (dc : Duty) : F32 :=
  match wk with
  | .sin => waveSin ph
  | .saw => waveSaw ph
  | .tri => waveTri ph
  | .sqr => waveSqr ph dc
  | .cos => waveCos ph

/-- `OUT(DF, y)` (R506): unconverted for `F32`, else the result of `CVT.F32.<DF>`. -/
def outStage (df : Fmt) (y : F32) : Word :=
  if df = .f32 then encF32 y else cvtResult .f32 df (encF32 y)

/-- The word of `SMP.<WK>.<DF>.<DC>` at an index and a frequency (R508 to R512). -/
def smpWord (c : Params) (wk : Wave) (df : Fmt) (dc : Duty) (index : Nat) (freq : F32) : Word :=
  outStage df (wave32 wk (phase32 c index freq) dc)

/-- What the five `SMP` commands share (R508 to R512): index in `OPA`, frequency in `OPB[31:0]`; no state but `RES` and
`ST` is read or written. A frequency out of contract has no result and no next state (R504; log 10). -/
def sampleAt (wk : Wave) (df : Fmt) (dc : Duty) (s : State) : Result :=
  if phaseInContract s.cfg (opaIndex s) (opbF32 s) then
    retOk s (smpWord s.cfg wk df dc (opaIndex s) (opbF32 s))
  else .refused .frequencyOutOfContract

/-- `SMP.SIN` (R508). -/
def execSmpSin (df : Fmt) (dc : Duty) (s : State) : Result := sampleAt .sin df dc s
/-- `SMP.SAW` (R509). -/
def execSmpSaw (df : Fmt) (dc : Duty) (s : State) : Result := sampleAt .saw df dc s
/-- `SMP.TRI` (R510). -/
def execSmpTri (df : Fmt) (dc : Duty) (s : State) : Result := sampleAt .tri df dc s
/-- `SMP.SQR` (R511). -/
def execSmpSqr (df : Fmt) (dc : Duty) (s : State) : Result := sampleAt .sqr df dc s
/-- `SMP.COS` (R512). -/
def execSmpCos (df : Fmt) (dc : Duty) (s : State) : Result := sampleAt .cos df dc s

/-- The registers of an oscillator after `OSC.CFG` (R514). -/
def oscConfigured (wk : Wave) (dc : Duty) (freq : F32) : Osc :=
  { cfg := true, kind := wk, duty := dc, freq := freq, phase := zero32 }

/-- `OSC.CFG` (R514): all five registers of the instance are written, whatever the frequency (log 10). -/
def execOscCfg (wk : Wave) (dc : Duty) (inst : BitVec 8) (s : State) : Result :=
  if wk.isSourceKind then
    match getOsc s inst with
    | none => raiseIllegal s
    | some _ => retOk (putOsc s inst (oscConfigured wk dc (opbF32 s))) 0#64
  else raiseIllegal s

/-- The registers of an oscillator after one advance of its phase: `frac32(ph +32 freq /32 RATE32)` (R515). -/
def oscAdvanced (c : Params) (o : Osc) : Osc :=
  { o with phase := frac32 (add32 o.phase (div32 o.freq (rate32 c))) }

/-- `OSC.NEXT` (R515): the sample of the phase before the advance. A stored frequency out of contract leaves the instance
without defined behaviour (R514, R504; log 10). -/
def execOscNext (df : Fmt) (inst : BitVec 8) (s : State) : Result :=
  match getOsc s inst with
  | none => raiseIllegal s
  | some o =>
    if o.cfg then
      if freqInContract o.freq then
        retOk (putOsc s inst (oscAdvanced s.cfg o)) (outStage df (wave32 o.kind o.phase o.duty))
      else .refused .frequencyOutOfContract
    else raiseIllegal s

/-- `OSC.AT` (R516): the sample at the index in `OPA`; no register of the instance is written. -/
def execOscAt (df : Fmt) (inst : BitVec 8) (s : State) : Result :=
  match getOsc s inst with
  | none => raiseIllegal s
  | some o =>
    if o.cfg then
      if phaseInContract s.cfg (opaIndex s) o.freq then
        retOk s (smpWord s.cfg o.kind df o.duty (opaIndex s) o.freq)
      else .refused .frequencyOutOfContract
    else raiseIllegal s

end Sys2Proof.Machine
end

