-- ==== Sys2Proof/Machine/Adsr.lean ====
section
/-! DEFINITION. The ADSR envelope (49_adsr.md): coefficients and setters, the one-pole step, the sample tick and the state
read. -/

namespace Sys2Proof.Machine

/-- `NEG_FLOOR` (R603): the binary32 nearest -0.01. -/
def negFloor32 : F32 := 0xBC23D70A#32

/-- `LEVEL(shape)` (R603): `9·shape^10 + 0.3·shape + 1.01`, additions from left to right; `0x41100000` is 9.0. -/
def envLevel (shape : F32) : F32 :=
  add32 (add32 (mul32 0x41100000#32 (pow32 shape ten32)) (mul32 0x3E99999A#32 shape)) 0x3F8147AE#32

/-- The attack coefficient for a time and an attack level (R605). -/
def attackCoeff (c : Params) (seconds level : F32) : F32 :=
  if lt32 zero32 seconds then
    let ratio := sub32 one32 (div32 one32 level)
    sub32 one32 (exp32 (div32 (ln32 ratio) (mul32 seconds (rate32 c))))
  else one32

/-- `TC(s)`: the decay and release coefficient (R606). -/
def timeCoeff (c : Params) (seconds : F32) : F32 :=
  if lt32 zero32 seconds then sub32 one32 (exp32 (div32 negOne32 (mul32 seconds (rate32 c)))) else one32

/-- The stored sustain target (R608). -/
def sustainTarget (v : F32) : F32 :=
  if le32 v zero32 then negFloor32 else if lt32 one32 v then one32 else v

/-- The contract of the attack parameters (R609): the time is not a NaN and `0.0 <= shape <= 1.0`. -/
def attackInContract (seconds shape : F32) : Bool := !isNaN32 seconds && within32 zero32 shape one32

/-- What the four setters share: the instance is looked up, its new registers are written, flag `k` of `wr` is set, and mark
`k` is set when the operand is out of contract. Out of contract the `n` registers take free values
(93_implementation_defined.md U6; log 12). -/
def envSet (inst : BitVec 8) (k n : Nat) (ok : Bool) (good : Env → Env) (bad : Env → Env) (s : State) : Result :=
  match getEnv s inst with
  | none => raiseIllegal s
  | some e =>
    if ok then retOk (putEnv s inst { good e with wr := setFlag e.wr k, undef := markUndef e.undef k true }) 0#64
    else retOk (drawFree (putEnv s inst { bad e with wr := setFlag e.wr k, undef := markUndef e.undef k false }) n) 0#64

/-- `ENV.SET_ATTACK` (R605). -/
def execEnvSetAttack (inst : BitVec 8) (s : State) : Result :=
  envSet inst 0 2 (attackInContract (opaF32 s) (opbF32 s))
    (fun e => { e with level := envLevel (opbF32 s), d0a := attackCoeff s.cfg (opaF32 s) (envLevel (opbF32 s)) })
    (fun e => { e with level := Config.freeF32 s.freeCount, d0a := Config.freeF32 (s.freeCount + 1) }) s

/-- `ENV.SET_DECAY` (R606). -/
def execEnvSetDecay (inst : BitVec 8) (s : State) : Result :=
  envSet inst 1 1 (!isNaN32 (opaF32 s)) (fun e => { e with d0d := timeCoeff s.cfg (opaF32 s) })
    (fun e => { e with d0d := Config.freeF32 s.freeCount }) s

/-- `ENV.SET_RELEASE` (R607). -/
def execEnvSetRelease (inst : BitVec 8) (s : State) : Result :=
  envSet inst 2 1 (!isNaN32 (opaF32 s)) (fun e => { e with d0r := timeCoeff s.cfg (opaF32 s) })
    (fun e => { e with d0r := Config.freeF32 s.freeCount }) s

/-- `ENV.SET_SUSTAIN` (R608). -/
def execEnvSetSustain (inst : BitVec 8) (s : State) : Result :=
  envSet inst 3 1 (!isNaN32 (opaF32 s)) (fun e => { e with sus := sustainTarget (opaF32 s) })
    (fun e => { e with sus := Config.freeF32 s.freeCount }) s

/-- `STEP(x, target, d0)` (R602): three rounded operations in that order. -/
def onePole (x target d0 : F32) : F32 := add32 x (mul32 d0 (sub32 target x))

/-- The state after the edge rule, "from whatever state" (R610, step 1). -/
def edgeStage (g : Bool) (e : Env) : Stage :=
  if g && !e.gatePrev then .attack else if !g && e.gatePrev then .release else e.state

/-- A falling stage: one step toward the target; below 0.0 the value is exactly `+0.0` and the state Init (R610). -/
def fallStage (st : Stage) (x target d0 : F32) : Stage × F32 :=
  let y := onePole x target d0
  if lt32 y zero32 then (.init, zero32) else (st, y)

/-- The attack: one step toward the level; above 1.0 the value is exactly 1.0 and the state Decay (R610). -/
def riseStage (x target d0 : F32) : Stage × F32 :=
  let y := onePole x target d0
  if lt32 one32 y then (.decay, one32) else (.attack, y)

/-- One step of a stage (R610, step 2): the state and the running value after it. -/
def stageStep (e : Env) (st : Stage) : Stage × F32 :=
  match st with
  | .init => (.init, e.x)
  | .attack => riseStage e.x e.level e.d0a
  | .decay => fallStage .decay e.x e.sus e.d0d
  | .release => fallStage .release e.x negFloor32 e.d0r

/-- The registers of an envelope after one tick (R610). -/
def envTicked (g : Bool) (e : Env) : Env :=
  let r := stageStep e (edgeStage g e)
  { e with state := r.1, x := r.2, gatePrev := g }

/-- The output of one tick (R610): `+0.0` in Init, else the running value after the step. -/
def envOutput (g : Bool) (e : Env) : F32 :=
  match edgeStage g e with
  | .init => zero32
  | st => (stageStep e st).2

/-- `ENV.TICK` (R610): `Illegal` while a parameter set is unwritten; after a setter operand out of contract the spec
defines no result and no next state until reset (R769, 93_implementation_defined.md U6; log 12). -/
def execEnvTick (g : Bool) (inst : BitVec 8) (s : State) : Result :=
  match getEnv s inst with
  | none => raiseIllegal s
  | some e =>
    if envWritten e then
      if e.undef = 0#4 then retOk (putEnv s inst (envTicked g e)) (encF32 (envOutput g e))
      else .refused .envParameterOutOfContract
    else raiseIllegal s

/-- `ENV.STAT` (R612): the state code in `RES[1:0]`. -/
def execEnvStat (inst : BitVec 8) (s : State) : Result :=
  match getEnv s inst with
  | none => raiseIllegal s
  | some e => retOk s (e.state.code.setWidth 64)

end Sys2Proof.Machine
end

