-- ==== Sys2Proof/Machine/CvtFloat.lean ====
section
/-! DEFINITION. The `CVT` commands whose source format is a floating-point one (45_convert_src_float.md): each is the
shared command `convert` at its pair of formats (40_convert.md R116). -/

namespace Sys2Proof.Machine

/-- `CVT.F32.I8` (R400). -/
def execCvtF32I8 (s : State) : Result := convert .f32 .i8 s
/-- `CVT.F32.I16` (R401). -/
def execCvtF32I16 (s : State) : Result := convert .f32 .i16 s
/-- `CVT.F32.I24` (R402). -/
def execCvtF32I24 (s : State) : Result := convert .f32 .i24 s
/-- `CVT.F32.I32` (R403). -/
def execCvtF32I32 (s : State) : Result := convert .f32 .i32 s
/-- `CVT.F32.I48` (R404). -/
def execCvtF32I48 (s : State) : Result := convert .f32 .i48 s
/-- `CVT.F32.I64` (R405). -/
def execCvtF32I64 (s : State) : Result := convert .f32 .i64 s
/-- `CVT.F32.U8` (R406). -/
def execCvtF32U8 (s : State) : Result := convert .f32 .u8 s
/-- `CVT.F32.U16` (R407). -/
def execCvtF32U16 (s : State) : Result := convert .f32 .u16 s
/-- `CVT.F32.U24` (R408). -/
def execCvtF32U24 (s : State) : Result := convert .f32 .u24 s
/-- `CVT.F32.U32` (R409). -/
def execCvtF32U32 (s : State) : Result := convert .f32 .u32 s
/-- `CVT.F32.U48` (R410). -/
def execCvtF32U48 (s : State) : Result := convert .f32 .u48 s
/-- `CVT.F32.U64` (R411). -/
def execCvtF32U64 (s : State) : Result := convert .f32 .u64 s
/-- `CVT.F32.F32` (R412). -/
def execCvtF32F32 (s : State) : Result := convert .f32 .f32 s
/-- `CVT.F32.F64` (R413). -/
def execCvtF32F64 (s : State) : Result := convert .f32 .f64 s
/-- `CVT.F64.I8` (R414). -/
def execCvtF64I8 (s : State) : Result := convert .f64 .i8 s
/-- `CVT.F64.I16` (R415). -/
def execCvtF64I16 (s : State) : Result := convert .f64 .i16 s
/-- `CVT.F64.I24` (R416). -/
def execCvtF64I24 (s : State) : Result := convert .f64 .i24 s
/-- `CVT.F64.I32` (R417). -/
def execCvtF64I32 (s : State) : Result := convert .f64 .i32 s
/-- `CVT.F64.I48` (R418). -/
def execCvtF64I48 (s : State) : Result := convert .f64 .i48 s
/-- `CVT.F64.I64` (R419). -/
def execCvtF64I64 (s : State) : Result := convert .f64 .i64 s
/-- `CVT.F64.U8` (R420). -/
def execCvtF64U8 (s : State) : Result := convert .f64 .u8 s
/-- `CVT.F64.U16` (R421). -/
def execCvtF64U16 (s : State) : Result := convert .f64 .u16 s
/-- `CVT.F64.U24` (R422). -/
def execCvtF64U24 (s : State) : Result := convert .f64 .u24 s
/-- `CVT.F64.U32` (R423). -/
def execCvtF64U32 (s : State) : Result := convert .f64 .u32 s
/-- `CVT.F64.U48` (R424). -/
def execCvtF64U48 (s : State) : Result := convert .f64 .u48 s
/-- `CVT.F64.U64` (R425). -/
def execCvtF64U64 (s : State) : Result := convert .f64 .u64 s
/-- `CVT.F64.F32` (R426). -/
def execCvtF64F32 (s : State) : Result := convert .f64 .f32 s
/-- `CVT.F64.F64` (R427). -/
def execCvtF64F64 (s : State) : Result := convert .f64 .f64 s

end Sys2Proof.Machine
end

