-- ==== Sys2Proof/Machine/CvtSigned.lean ====
section
/-! DEFINITION. The `CVT` commands whose source format is a signed integer (41_convert_src_i8_i16_i24.md, 42_convert_src_i32_i48_i64.md): each is the
shared command `convert` at its pair of formats (40_convert.md R116). -/

namespace Sys2Proof.Machine

/-- `CVT.I8.I8` (R200). -/
def execCvtI8I8 (s : State) : Result := convert .i8 .i8 s
/-- `CVT.I8.I16` (R201). -/
def execCvtI8I16 (s : State) : Result := convert .i8 .i16 s
/-- `CVT.I8.I24` (R202). -/
def execCvtI8I24 (s : State) : Result := convert .i8 .i24 s
/-- `CVT.I8.I32` (R203). -/
def execCvtI8I32 (s : State) : Result := convert .i8 .i32 s
/-- `CVT.I8.I48` (R204). -/
def execCvtI8I48 (s : State) : Result := convert .i8 .i48 s
/-- `CVT.I8.I64` (R205). -/
def execCvtI8I64 (s : State) : Result := convert .i8 .i64 s
/-- `CVT.I8.U8` (R206). -/
def execCvtI8U8 (s : State) : Result := convert .i8 .u8 s
/-- `CVT.I8.U16` (R207). -/
def execCvtI8U16 (s : State) : Result := convert .i8 .u16 s
/-- `CVT.I8.U24` (R208). -/
def execCvtI8U24 (s : State) : Result := convert .i8 .u24 s
/-- `CVT.I8.U32` (R209). -/
def execCvtI8U32 (s : State) : Result := convert .i8 .u32 s
/-- `CVT.I8.U48` (R210). -/
def execCvtI8U48 (s : State) : Result := convert .i8 .u48 s
/-- `CVT.I8.U64` (R211). -/
def execCvtI8U64 (s : State) : Result := convert .i8 .u64 s
/-- `CVT.I8.F32` (R212). -/
def execCvtI8F32 (s : State) : Result := convert .i8 .f32 s
/-- `CVT.I8.F64` (R213). -/
def execCvtI8F64 (s : State) : Result := convert .i8 .f64 s
/-- `CVT.I16.I8` (R214). -/
def execCvtI16I8 (s : State) : Result := convert .i16 .i8 s
/-- `CVT.I16.I16` (R215). -/
def execCvtI16I16 (s : State) : Result := convert .i16 .i16 s
/-- `CVT.I16.I24` (R216). -/
def execCvtI16I24 (s : State) : Result := convert .i16 .i24 s
/-- `CVT.I16.I32` (R217). -/
def execCvtI16I32 (s : State) : Result := convert .i16 .i32 s
/-- `CVT.I16.I48` (R218). -/
def execCvtI16I48 (s : State) : Result := convert .i16 .i48 s
/-- `CVT.I16.I64` (R219). -/
def execCvtI16I64 (s : State) : Result := convert .i16 .i64 s
/-- `CVT.I16.U8` (R220). -/
def execCvtI16U8 (s : State) : Result := convert .i16 .u8 s
/-- `CVT.I16.U16` (R221). -/
def execCvtI16U16 (s : State) : Result := convert .i16 .u16 s
/-- `CVT.I16.U24` (R222). -/
def execCvtI16U24 (s : State) : Result := convert .i16 .u24 s
/-- `CVT.I16.U32` (R223). -/
def execCvtI16U32 (s : State) : Result := convert .i16 .u32 s
/-- `CVT.I16.U48` (R224). -/
def execCvtI16U48 (s : State) : Result := convert .i16 .u48 s
/-- `CVT.I16.U64` (R225). -/
def execCvtI16U64 (s : State) : Result := convert .i16 .u64 s
/-- `CVT.I16.F32` (R226). -/
def execCvtI16F32 (s : State) : Result := convert .i16 .f32 s
/-- `CVT.I16.F64` (R227). -/
def execCvtI16F64 (s : State) : Result := convert .i16 .f64 s
/-- `CVT.I24.I8` (R228). -/
def execCvtI24I8 (s : State) : Result := convert .i24 .i8 s
/-- `CVT.I24.I16` (R229). -/
def execCvtI24I16 (s : State) : Result := convert .i24 .i16 s
/-- `CVT.I24.I24` (R230). -/
def execCvtI24I24 (s : State) : Result := convert .i24 .i24 s
/-- `CVT.I24.I32` (R231). -/
def execCvtI24I32 (s : State) : Result := convert .i24 .i32 s
/-- `CVT.I24.I48` (R232). -/
def execCvtI24I48 (s : State) : Result := convert .i24 .i48 s
/-- `CVT.I24.I64` (R233). -/
def execCvtI24I64 (s : State) : Result := convert .i24 .i64 s
/-- `CVT.I24.U8` (R234). -/
def execCvtI24U8 (s : State) : Result := convert .i24 .u8 s
/-- `CVT.I24.U16` (R235). -/
def execCvtI24U16 (s : State) : Result := convert .i24 .u16 s
/-- `CVT.I24.U24` (R236). -/
def execCvtI24U24 (s : State) : Result := convert .i24 .u24 s
/-- `CVT.I24.U32` (R237). -/
def execCvtI24U32 (s : State) : Result := convert .i24 .u32 s
/-- `CVT.I24.U48` (R238). -/
def execCvtI24U48 (s : State) : Result := convert .i24 .u48 s
/-- `CVT.I24.U64` (R239). -/
def execCvtI24U64 (s : State) : Result := convert .i24 .u64 s
/-- `CVT.I24.F32` (R240). -/
def execCvtI24F32 (s : State) : Result := convert .i24 .f32 s
/-- `CVT.I24.F64` (R241). -/
def execCvtI24F64 (s : State) : Result := convert .i24 .f64 s
/-- `CVT.I32.I8` (R242). -/
def execCvtI32I8 (s : State) : Result := convert .i32 .i8 s
/-- `CVT.I32.I16` (R243). -/
def execCvtI32I16 (s : State) : Result := convert .i32 .i16 s
/-- `CVT.I32.I24` (R244). -/
def execCvtI32I24 (s : State) : Result := convert .i32 .i24 s
/-- `CVT.I32.I32` (R245). -/
def execCvtI32I32 (s : State) : Result := convert .i32 .i32 s
/-- `CVT.I32.I48` (R246). -/
def execCvtI32I48 (s : State) : Result := convert .i32 .i48 s
/-- `CVT.I32.I64` (R247). -/
def execCvtI32I64 (s : State) : Result := convert .i32 .i64 s
/-- `CVT.I32.U8` (R248). -/
def execCvtI32U8 (s : State) : Result := convert .i32 .u8 s
/-- `CVT.I32.U16` (R249). -/
def execCvtI32U16 (s : State) : Result := convert .i32 .u16 s
/-- `CVT.I32.U24` (R250). -/
def execCvtI32U24 (s : State) : Result := convert .i32 .u24 s
/-- `CVT.I32.U32` (R251). -/
def execCvtI32U32 (s : State) : Result := convert .i32 .u32 s
/-- `CVT.I32.U48` (R252). -/
def execCvtI32U48 (s : State) : Result := convert .i32 .u48 s
/-- `CVT.I32.U64` (R253). -/
def execCvtI32U64 (s : State) : Result := convert .i32 .u64 s
/-- `CVT.I32.F32` (R254). -/
def execCvtI32F32 (s : State) : Result := convert .i32 .f32 s
/-- `CVT.I32.F64` (R255). -/
def execCvtI32F64 (s : State) : Result := convert .i32 .f64 s
/-- `CVT.I48.I8` (R256). -/
def execCvtI48I8 (s : State) : Result := convert .i48 .i8 s
/-- `CVT.I48.I16` (R257). -/
def execCvtI48I16 (s : State) : Result := convert .i48 .i16 s
/-- `CVT.I48.I24` (R258). -/
def execCvtI48I24 (s : State) : Result := convert .i48 .i24 s
/-- `CVT.I48.I32` (R259). -/
def execCvtI48I32 (s : State) : Result := convert .i48 .i32 s
/-- `CVT.I48.I48` (R260). -/
def execCvtI48I48 (s : State) : Result := convert .i48 .i48 s
/-- `CVT.I48.I64` (R261). -/
def execCvtI48I64 (s : State) : Result := convert .i48 .i64 s
/-- `CVT.I48.U8` (R262). -/
def execCvtI48U8 (s : State) : Result := convert .i48 .u8 s
/-- `CVT.I48.U16` (R263). -/
def execCvtI48U16 (s : State) : Result := convert .i48 .u16 s
/-- `CVT.I48.U24` (R264). -/
def execCvtI48U24 (s : State) : Result := convert .i48 .u24 s
/-- `CVT.I48.U32` (R265). -/
def execCvtI48U32 (s : State) : Result := convert .i48 .u32 s
/-- `CVT.I48.U48` (R266). -/
def execCvtI48U48 (s : State) : Result := convert .i48 .u48 s
/-- `CVT.I48.U64` (R267). -/
def execCvtI48U64 (s : State) : Result := convert .i48 .u64 s
/-- `CVT.I48.F32` (R268). -/
def execCvtI48F32 (s : State) : Result := convert .i48 .f32 s
/-- `CVT.I48.F64` (R269). -/
def execCvtI48F64 (s : State) : Result := convert .i48 .f64 s
/-- `CVT.I64.I8` (R270). -/
def execCvtI64I8 (s : State) : Result := convert .i64 .i8 s
/-- `CVT.I64.I16` (R271). -/
def execCvtI64I16 (s : State) : Result := convert .i64 .i16 s
/-- `CVT.I64.I24` (R272). -/
def execCvtI64I24 (s : State) : Result := convert .i64 .i24 s
/-- `CVT.I64.I32` (R273). -/
def execCvtI64I32 (s : State) : Result := convert .i64 .i32 s
/-- `CVT.I64.I48` (R274). -/
def execCvtI64I48 (s : State) : Result := convert .i64 .i48 s
/-- `CVT.I64.I64` (R275). -/
def execCvtI64I64 (s : State) : Result := convert .i64 .i64 s
/-- `CVT.I64.U8` (R276). -/
def execCvtI64U8 (s : State) : Result := convert .i64 .u8 s
/-- `CVT.I64.U16` (R277). -/
def execCvtI64U16 (s : State) : Result := convert .i64 .u16 s
/-- `CVT.I64.U24` (R278). -/
def execCvtI64U24 (s : State) : Result := convert .i64 .u24 s
/-- `CVT.I64.U32` (R279). -/
def execCvtI64U32 (s : State) : Result := convert .i64 .u32 s
/-- `CVT.I64.U48` (R280). -/
def execCvtI64U48 (s : State) : Result := convert .i64 .u48 s
/-- `CVT.I64.U64` (R281). -/
def execCvtI64U64 (s : State) : Result := convert .i64 .u64 s
/-- `CVT.I64.F32` (R282). -/
def execCvtI64F32 (s : State) : Result := convert .i64 .f32 s
/-- `CVT.I64.F64` (R283). -/
def execCvtI64F64 (s : State) : Result := convert .i64 .f64 s

end Sys2Proof.Machine
end

