-- ==== Sys2Proof/Machine/CvtUnsigned.lean ====
section
/-! DEFINITION. The `CVT` commands whose source format is an unsigned integer (43_convert_src_u8_u16_u24.md, 44_convert_src_u32_u48_u64.md): each is the
shared command `convert` at its pair of formats (40_convert.md R116). -/

namespace Sys2Proof.Machine

/-- `CVT.U8.I8` (R300). -/
def execCvtU8I8 (s : State) : Result := convert .u8 .i8 s
/-- `CVT.U8.I16` (R301). -/
def execCvtU8I16 (s : State) : Result := convert .u8 .i16 s
/-- `CVT.U8.I24` (R302). -/
def execCvtU8I24 (s : State) : Result := convert .u8 .i24 s
/-- `CVT.U8.I32` (R303). -/
def execCvtU8I32 (s : State) : Result := convert .u8 .i32 s
/-- `CVT.U8.I48` (R304). -/
def execCvtU8I48 (s : State) : Result := convert .u8 .i48 s
/-- `CVT.U8.I64` (R305). -/
def execCvtU8I64 (s : State) : Result := convert .u8 .i64 s
/-- `CVT.U8.U8` (R306). -/
def execCvtU8U8 (s : State) : Result := convert .u8 .u8 s
/-- `CVT.U8.U16` (R307). -/
def execCvtU8U16 (s : State) : Result := convert .u8 .u16 s
/-- `CVT.U8.U24` (R308). -/
def execCvtU8U24 (s : State) : Result := convert .u8 .u24 s
/-- `CVT.U8.U32` (R309). -/
def execCvtU8U32 (s : State) : Result := convert .u8 .u32 s
/-- `CVT.U8.U48` (R310). -/
def execCvtU8U48 (s : State) : Result := convert .u8 .u48 s
/-- `CVT.U8.U64` (R311). -/
def execCvtU8U64 (s : State) : Result := convert .u8 .u64 s
/-- `CVT.U8.F32` (R312). -/
def execCvtU8F32 (s : State) : Result := convert .u8 .f32 s
/-- `CVT.U8.F64` (R313). -/
def execCvtU8F64 (s : State) : Result := convert .u8 .f64 s
/-- `CVT.U16.I8` (R314). -/
def execCvtU16I8 (s : State) : Result := convert .u16 .i8 s
/-- `CVT.U16.I16` (R315). -/
def execCvtU16I16 (s : State) : Result := convert .u16 .i16 s
/-- `CVT.U16.I24` (R316). -/
def execCvtU16I24 (s : State) : Result := convert .u16 .i24 s
/-- `CVT.U16.I32` (R317). -/
def execCvtU16I32 (s : State) : Result := convert .u16 .i32 s
/-- `CVT.U16.I48` (R318). -/
def execCvtU16I48 (s : State) : Result := convert .u16 .i48 s
/-- `CVT.U16.I64` (R319). -/
def execCvtU16I64 (s : State) : Result := convert .u16 .i64 s
/-- `CVT.U16.U8` (R320). -/
def execCvtU16U8 (s : State) : Result := convert .u16 .u8 s
/-- `CVT.U16.U16` (R321). -/
def execCvtU16U16 (s : State) : Result := convert .u16 .u16 s
/-- `CVT.U16.U24` (R322). -/
def execCvtU16U24 (s : State) : Result := convert .u16 .u24 s
/-- `CVT.U16.U32` (R323). -/
def execCvtU16U32 (s : State) : Result := convert .u16 .u32 s
/-- `CVT.U16.U48` (R324). -/
def execCvtU16U48 (s : State) : Result := convert .u16 .u48 s
/-- `CVT.U16.U64` (R325). -/
def execCvtU16U64 (s : State) : Result := convert .u16 .u64 s
/-- `CVT.U16.F32` (R326). -/
def execCvtU16F32 (s : State) : Result := convert .u16 .f32 s
/-- `CVT.U16.F64` (R327). -/
def execCvtU16F64 (s : State) : Result := convert .u16 .f64 s
/-- `CVT.U24.I8` (R328). -/
def execCvtU24I8 (s : State) : Result := convert .u24 .i8 s
/-- `CVT.U24.I16` (R329). -/
def execCvtU24I16 (s : State) : Result := convert .u24 .i16 s
/-- `CVT.U24.I24` (R330). -/
def execCvtU24I24 (s : State) : Result := convert .u24 .i24 s
/-- `CVT.U24.I32` (R331). -/
def execCvtU24I32 (s : State) : Result := convert .u24 .i32 s
/-- `CVT.U24.I48` (R332). -/
def execCvtU24I48 (s : State) : Result := convert .u24 .i48 s
/-- `CVT.U24.I64` (R333). -/
def execCvtU24I64 (s : State) : Result := convert .u24 .i64 s
/-- `CVT.U24.U8` (R334). -/
def execCvtU24U8 (s : State) : Result := convert .u24 .u8 s
/-- `CVT.U24.U16` (R335). -/
def execCvtU24U16 (s : State) : Result := convert .u24 .u16 s
/-- `CVT.U24.U24` (R336). -/
def execCvtU24U24 (s : State) : Result := convert .u24 .u24 s
/-- `CVT.U24.U32` (R337). -/
def execCvtU24U32 (s : State) : Result := convert .u24 .u32 s
/-- `CVT.U24.U48` (R338). -/
def execCvtU24U48 (s : State) : Result := convert .u24 .u48 s
/-- `CVT.U24.U64` (R339). -/
def execCvtU24U64 (s : State) : Result := convert .u24 .u64 s
/-- `CVT.U24.F32` (R340). -/
def execCvtU24F32 (s : State) : Result := convert .u24 .f32 s
/-- `CVT.U24.F64` (R341). -/
def execCvtU24F64 (s : State) : Result := convert .u24 .f64 s
/-- `CVT.U32.I8` (R342). -/
def execCvtU32I8 (s : State) : Result := convert .u32 .i8 s
/-- `CVT.U32.I16` (R343). -/
def execCvtU32I16 (s : State) : Result := convert .u32 .i16 s
/-- `CVT.U32.I24` (R344). -/
def execCvtU32I24 (s : State) : Result := convert .u32 .i24 s
/-- `CVT.U32.I32` (R345). -/
def execCvtU32I32 (s : State) : Result := convert .u32 .i32 s
/-- `CVT.U32.I48` (R346). -/
def execCvtU32I48 (s : State) : Result := convert .u32 .i48 s
/-- `CVT.U32.I64` (R347). -/
def execCvtU32I64 (s : State) : Result := convert .u32 .i64 s
/-- `CVT.U32.U8` (R348). -/
def execCvtU32U8 (s : State) : Result := convert .u32 .u8 s
/-- `CVT.U32.U16` (R349). -/
def execCvtU32U16 (s : State) : Result := convert .u32 .u16 s
/-- `CVT.U32.U24` (R350). -/
def execCvtU32U24 (s : State) : Result := convert .u32 .u24 s
/-- `CVT.U32.U32` (R351). -/
def execCvtU32U32 (s : State) : Result := convert .u32 .u32 s
/-- `CVT.U32.U48` (R352). -/
def execCvtU32U48 (s : State) : Result := convert .u32 .u48 s
/-- `CVT.U32.U64` (R353). -/
def execCvtU32U64 (s : State) : Result := convert .u32 .u64 s
/-- `CVT.U32.F32` (R354). -/
def execCvtU32F32 (s : State) : Result := convert .u32 .f32 s
/-- `CVT.U32.F64` (R355). -/
def execCvtU32F64 (s : State) : Result := convert .u32 .f64 s
/-- `CVT.U48.I8` (R356). -/
def execCvtU48I8 (s : State) : Result := convert .u48 .i8 s
/-- `CVT.U48.I16` (R357). -/
def execCvtU48I16 (s : State) : Result := convert .u48 .i16 s
/-- `CVT.U48.I24` (R358). -/
def execCvtU48I24 (s : State) : Result := convert .u48 .i24 s
/-- `CVT.U48.I32` (R359). -/
def execCvtU48I32 (s : State) : Result := convert .u48 .i32 s
/-- `CVT.U48.I48` (R360). -/
def execCvtU48I48 (s : State) : Result := convert .u48 .i48 s
/-- `CVT.U48.I64` (R361). -/
def execCvtU48I64 (s : State) : Result := convert .u48 .i64 s
/-- `CVT.U48.U8` (R362). -/
def execCvtU48U8 (s : State) : Result := convert .u48 .u8 s
/-- `CVT.U48.U16` (R363). -/
def execCvtU48U16 (s : State) : Result := convert .u48 .u16 s
/-- `CVT.U48.U24` (R364). -/
def execCvtU48U24 (s : State) : Result := convert .u48 .u24 s
/-- `CVT.U48.U32` (R365). -/
def execCvtU48U32 (s : State) : Result := convert .u48 .u32 s
/-- `CVT.U48.U48` (R366). -/
def execCvtU48U48 (s : State) : Result := convert .u48 .u48 s
/-- `CVT.U48.U64` (R367). -/
def execCvtU48U64 (s : State) : Result := convert .u48 .u64 s
/-- `CVT.U48.F32` (R368). -/
def execCvtU48F32 (s : State) : Result := convert .u48 .f32 s
/-- `CVT.U48.F64` (R369). -/
def execCvtU48F64 (s : State) : Result := convert .u48 .f64 s
/-- `CVT.U64.I8` (R370). -/
def execCvtU64I8 (s : State) : Result := convert .u64 .i8 s
/-- `CVT.U64.I16` (R371). -/
def execCvtU64I16 (s : State) : Result := convert .u64 .i16 s
/-- `CVT.U64.I24` (R372). -/
def execCvtU64I24 (s : State) : Result := convert .u64 .i24 s
/-- `CVT.U64.I32` (R373). -/
def execCvtU64I32 (s : State) : Result := convert .u64 .i32 s
/-- `CVT.U64.I48` (R374). -/
def execCvtU64I48 (s : State) : Result := convert .u64 .i48 s
/-- `CVT.U64.I64` (R375). -/
def execCvtU64I64 (s : State) : Result := convert .u64 .i64 s
/-- `CVT.U64.U8` (R376). -/
def execCvtU64U8 (s : State) : Result := convert .u64 .u8 s
/-- `CVT.U64.U16` (R377). -/
def execCvtU64U16 (s : State) : Result := convert .u64 .u16 s
/-- `CVT.U64.U24` (R378). -/
def execCvtU64U24 (s : State) : Result := convert .u64 .u24 s
/-- `CVT.U64.U32` (R379). -/
def execCvtU64U32 (s : State) : Result := convert .u64 .u32 s
/-- `CVT.U64.U48` (R380). -/
def execCvtU64U48 (s : State) : Result := convert .u64 .u48 s
/-- `CVT.U64.U64` (R381). -/
def execCvtU64U64 (s : State) : Result := convert .u64 .u64 s
/-- `CVT.U64.F32` (R382). -/
def execCvtU64F32 (s : State) : Result := convert .u64 .f32 s
/-- `CVT.U64.F64` (R383). -/
def execCvtU64F64 (s : State) : Result := convert .u64 .f64 s

end Sys2Proof.Machine
end

