-- ==== Sys2Proof/Machine/Table.lean ====
section
/-! DEFINITION. The table builder, the table cache and the lookup-table readers (47_table_lut.md). -/

namespace Sys2Proof.Machine

/-- A frequency as the fast path takes it: `-0.0` behaves as `+0.0` (R504). -/
def freqValue (freq : F32) : F32 := if mag32 freq = 0 then zero32 else freq

/-- The angular step of the sine fast path: `(TWO_PI *32 freq) /32 RATE32` (R543). -/
def sineStep (c : Params) (freq : F32) : F32 := div32 (mul32 twoPi32 (freqValue freq)) (rate32 c)

/-- The argument of `SIN32` for entry `i` (R543): entry 0 has the argument `+0.0`, also where the step is not finite
(log 19). -/
def sineAngle (step : F32) (i : Nat) : F32 := if i = 0 then zero32 else mul32 (rn32 false i 1) step

/-- `ENTRY(SIN, i, freq, duty)` for a step computed once per build (R543). -/
def sineEntry (c : Params) (step : F32) (i : Nat) : Word := outStage c.tableFmt (sin32 (sineAngle step i))

/-- The words of a table built for a kind, a frequency and a duty, entries 0 to `SAMPLE_RATE - 1` (R540): the fast path for
the sine (R543), the word of `SMP` for the other kinds (R542). -/
def tableWords (c : Params) (wk : Wave) (freq : F32) (dc : Duty) : List Word :=
  match wk with
  | .sin =>
    let step := sineStep c freq
    (List.range c.sampleRate).map (sineEntry c step)
  | wk => (List.range c.sampleRate).map (fun i => smpWord c wk c.tableFmt dc i freq)

/-- `TBL.BUILD` (R541): `Illegal`, then `IncorrectSize` (R707), then the frequency contract (R504; log 10, log 14), then the
build. -/
def execTblBuild (wk : Wave) (dc : Duty) (inst : BitVec 8) (s : State) : Result :=
  if wk.isSourceKind then
    match s.cfg.privLen[inst.toNat]? with
    | none => raiseIllegal s
    | some len =>
      if len = s.cfg.sampleRate then
        if freqInContract (opbF32 s) then
          retOk
            (markPrivOk (fillTable s (privHandle inst.toNat) (tableWords s.cfg wk (opbF32 s) dc)) inst.toNat)
            ((privHandle inst.toNat).setWidth 64)
        else .refused .frequencyOutOfContract
      else raise s .incorrectSize (sizePayload s.cfg.sampleRate len)
  else raiseIllegal s

/-- `EPS32` (R545): the binary32 nearest 0.0001. -/
def eps32 : F32 := 0x38D1B717#32

/-- `freq_eq(a, b)` (R545). -/
def freqEq (a b : F32) : Bool := lt32 (abs32 (sub32 a b)) eps32

/-- A request matches a tag (R547): kind and duty equal, frequencies equal for the cache. -/
def tagMatches (wk : Wave) (dc : Duty) (freq : F32) (t : Tag) : Bool :=
  t.kind == wk && t.duty == dc && freqEq t.freq freq

/-- The ascending scan of the valid entries, the first match winning (R546). -/
def findEntry (s : State) (wk : Wave) (dc : Duty) (freq : F32) : Option Nat :=
  (s.tags.take s.cnt).findIdx? (tagMatches wk dc freq)

/-- `TBL.ALLOC` (R546): a hit returns the handle and writes nothing else; a miss in a full cache is `TableFull` (R705); a
miss with room builds `C(CNT)` and inserts its tag. A frequency out of contract has no result and no next state (R504;
log 10, log 14). -/
def execTblAlloc (wk : Wave) (dc : Duty) (s : State) : Result :=
  if wk.isSourceKind then
    if freqInContract (opbF32 s) then
      match findEntry s wk dc (opbF32 s) with
      | some e => retOk s ((cacheHandle e).setWidth 64)
      | none =>
        if s.cnt = s.cfg.cacheCap then raise s .tableFull 0#64
        else
          retOk
            (pushTag (fillTable s (cacheHandle s.cnt) (tableWords s.cfg wk (opbF32 s) dc))
              { kind := wk, duty := dc, freq := opbF32 s })
            ((cacheHandle s.cnt).setWidth 64)
    else .refused .frequencyOutOfContract
  else raiseIllegal s

/-- `LUT.BIND` (R549). -/
def execLutBind (inst : BitVec 8) (s : State) : Result :=
  match getLut s inst with
  | none => raiseIllegal s
  | some _ =>
    if handleValid s (opaHandle s) then
      retOk (putLut s inst { bound := true, tbl := opaHandle s, idx := 0#32 }) 0#64
    else raiseIllegal s

/-- `LUT.NEXT` (R551): the entry at the index before the advance. -/
def execLutNext (inst : BitVec 8) (s : State) : Result :=
  match getLut s inst with
  | none => raiseIllegal s
  | some l =>
    if l.bound then
      match memRead s.mem l.tbl l.idx with
      | none => .fault .unwrittenEntry
      | some w => retOk (putLut s inst { l with idx := BitVec.ofNat 32 ((l.idx.toNat + 1) % s.cfg.sampleRate) }) w
    else raiseIllegal s

/-- `LUT.AT` (R552): the entry at the index in `OPA` modulo the table length; no register of the reader is written. -/
def execLutAt (inst : BitVec 8) (s : State) : Result :=
  match getLut s inst with
  | none => raiseIllegal s
  | some l =>
    if l.bound then
      match memRead s.mem l.tbl (BitVec.ofNat 32 (opaIndex s % s.cfg.sampleRate)) with
      | none => .fault .unwrittenEntry
      | some w => retOk s w
    else raiseIllegal s

end Sys2Proof.Machine
end

