-- ==== Sys2Proof/Machine/Vso.lean ====
section
/-! DEFINITION. The variable-shape oscillator (48_vso.md): setters, effective pulse width, kernels, naive waveform and the
sampling command. -/

namespace Sys2Proof.Machine

/-- The binary32 `0.25`, the ceiling of both frequencies (R571). -/
def quarter32 : F32 := 0x3E800000#32

/-- A frequency in cycles per sample, limited to 0.25 (R571, R572). -/
def vsoFreq (c : Params) (hertz : F32) : F32 :=
  let f := div32 hertz (rate32 c)
  if le32 quarter32 f then quarter32 else f

/-- What the five setters share: the instance is looked up, its new registers are written, flag `k` of `wr` is set, and mark
`k` is set when the operand is out of contract (93_implementation_defined.md U5; log 11). -/
def vsoSet (inst : BitVec 8) (k : Nat) (ok : Bool) (f : Vso → Vso) (s : State) : Result :=
  match getVso s inst with
  | none => raiseIllegal s
  | some v => retOk (putVso s inst { f v with wr := setFlag v.wr k, undef := markUndef v.undef k ok }) 0#64

/-- A master frequency in hertz is in contract: finite and not negative (R571, R768). -/
def masterInContract (hertz : F32) : Bool := isFin32 hertz && le32 zero32 hertz
/-- A slave frequency in hertz is in contract: finite, and the quotient above zero (R572, R768). -/
def slaveInContract (c : Params) (hertz : F32) : Bool := isFin32 hertz && lt32 zero32 (vsoFreq c hertz)

/-- `VSO.SET_MASTER` (R571). -/
def execVsoSetMaster (inst : BitVec 8) (s : State) : Result :=
  vsoSet inst 0 (masterInContract (opaF32 s)) (fun v => { v with mfreq := vsoFreq s.cfg (opaF32 s) }) s
/-- `VSO.SET_SLAVE` (R572). -/
def execVsoSetSlave (inst : BitVec 8) (s : State) : Result :=
  vsoSet inst 1 (slaveInContract s.cfg (opaF32 s)) (fun v => { v with sfreq := vsoFreq s.cfg (opaF32 s) }) s
/-- `VSO.SET_PW` (R573): any finite request is in contract. -/
def execVsoSetPw (inst : BitVec 8) (s : State) : Result :=
  vsoSet inst 2 (isFin32 (opaF32 s)) (fun v => { v with pwReq := opaF32 s }) s
/-- `VSO.SET_SHAPE` (R574). -/
def execVsoSetShape (inst : BitVec 8) (s : State) : Result :=
  vsoSet inst 3 (within32 zero32 (opaF32 s) one32) (fun v => { v with shape := opaF32 s }) s
/-- `VSO.SET_SYNC` (R575): there is no operand to be out of contract. -/
def execVsoSetSync (g : Bool) (inst : BitVec 8) (s : State) : Result :=
  vsoSet inst 4 true (fun v => { v with sync := g }) s

/-- The parameter contract of `VSO.TICK` on the stored parameters (R576). -/
def vsoInContract (v : Vso) : Bool :=
  within32 zero32 v.mfreq quarter32 && (lt32 zero32 v.sfreq && le32 v.sfreq quarter32) &&
  isFin32 v.pwReq && within32 zero32 v.shape one32

/-- `PW_EFF(sfreq, pw_req)` (R577). -/
def pwEff (sfreq pwReq : F32) : F32 :=
  if le32 quarter32 sfreq then half32
  else
    let lo := mul32 sfreq two32
    let hi := sub32 one32 (mul32 two32 sfreq)
    let p := if lt32 pwReq lo then lo else pwReq
    if lt32 hi p then hi else p

/-- `THIS_BLEP(t)` (R578). -/
def thisBlep (t : F32) : F32 := mul32 (mul32 half32 t) t
/-- `NEXT_BLEP(t)` (R578); `0xBF000000` is -0.5. -/
def nextBlep (t : F32) : F32 :=
  let u := sub32 one32 t
  mul32 (mul32 0xBF000000#32 u) u
/-- `NEXT_IBLEP(t)` (R578); `0x3E400000` is 0.1875 and `0x3FC00000` is 1.5. -/
def nextIblep (t : F32) : F32 :=
  let t1 := mul32 half32 t
  let t2 := mul32 t1 t1
  let t4 := mul32 t2 t2
  sub32 (add32 (sub32 0x3E400000#32 t1) (mul32 0x3FC00000#32 t2)) t4
/-- `THIS_IBLEP(t)` (R578). -/
def thisIblep (t : F32) : F32 := nextIblep (sub32 one32 t)

/-- The quantities of R579 and R580 that stay fixed during one tick: effective pulse width, its predecessor, slave
frequency, blend amounts and slopes. -/
structure VsoShape where
  pw : F32
  prevPw : F32
  sf : F32
  sq : F32
  tri : F32
  su : F32
  sd : F32
  deriving DecidableEq, Repr

/-- The blend amounts and slopes of a tick (R579). -/
def vsoShapeOf (v : Vso) : VsoShape :=
  let pw := pwEff v.sfreq v.pwReq
  { pw := pw
    prevPw := v.prevPw
    sf := v.sfreq
    sq := mul32 (max32 (sub32 v.shape half32) zero32) two32
    tri := max32 (sub32 one32 (mul32 v.shape two32)) zero32
    su := div32 one32 pw
    sd := div32 one32 (sub32 one32 pw) }

/-- `NAIVE(ph, pw, su, sd, tri, sq)` (R579). -/
def naive32 (k : VsoShape) (ph : F32) : F32 :=
  let square := if lt32 ph k.pw then zero32 else one32
  let triangle := if lt32 ph k.pw then mul32 ph k.su else sub32 one32 (mul32 (sub32 ph k.pw) k.sd)
  let saw := add32 ph (mul32 (sub32 square ph) k.sq)
  add32 saw (mul32 (sub32 triangle saw) k.tri)

/-- The working copies of one tick (R580): the `this` and `nxt` parts of the output, the slave phase and the half-cycle
flag. -/
structure VsoAcc where
  this : F32
  nxt : F32
  sph : F32
  high : Bool
  deriving DecidableEq, Repr

/-- `ts` of R580: the change of slope at a transition, `((su +32 sd) *32 sf) *32 tri`. -/
def slopeChange (k : VsoShape) : F32 := mul32 (mul32 (add32 k.su k.sd) k.sf) k.tri

/-- The rising transition of the slave past the pulse width (R580, first half of the loop). -/
def vsoRise (k : VsoShape) (a : VsoAcc) : VsoAcc :=
  let t := div32 (sub32 a.sph k.pw) (add32 (sub32 k.prevPw k.pw) k.sf)
  let ts := slopeChange k
  { a with
    this := sub32 (add32 a.this (mul32 k.sq (thisBlep t))) (mul32 ts (thisIblep t))
    nxt := sub32 (add32 a.nxt (mul32 k.sq (nextBlep t))) (mul32 ts (nextIblep t))
    high := true }

/-- The falling transition of the slave at the end of its cycle (R580, second half of the loop). -/
def vsoFall (k : VsoShape) (a : VsoAcc) : VsoAcc :=
  let sph := sub32 a.sph one32
  let t := div32 sph k.sf
  let ts := slopeChange k
  let amt := sub32 one32 k.tri
  { this := add32 (sub32 a.this (mul32 amt (thisBlep t))) (mul32 ts (thisIblep t))
    nxt := add32 (sub32 a.nxt (mul32 amt (nextBlep t))) (mul32 ts (nextIblep t))
    sph := sph
    high := false }

/-- One pass of the body of the loop of R580: the working copies after it, and whether it left the loop by `break`. -/
def vsoPass (k : VsoShape) (a : VsoAcc) : VsoAcc × Bool :=
  if !a.high && lt32 a.sph k.pw then (a, true)
  else
    let b := if a.high then a else vsoRise k a
    if lt32 b.sph one32 then (b, true) else (vsoFall k b, false)

/-- At most `n` passes of the loop of R580: the working copies, and whether the loop has been left. -/
def vsoPasses (k : VsoShape) : Nat → VsoAcc → VsoAcc × Bool
  | 0, a => (a, false)
  | n + 1, a =>
    match vsoPass k a with
    | (b, true) => (b, true)
    | (b, false) => vsoPasses k n b

/-- The loop of R580, unrolled three times as R581 says a model may (log 13). -/
def vsoLoop (k : VsoShape) (a : VsoAcc) : VsoAcc := (vsoPasses k 3 a).1

/-- What the master's wrap decides (R580, step 1): whether the slave is reset, whether the reset crosses a transition
(`tdr`), the reset time, and the `this` and `nxt` parts after the reset's correction. -/
structure VsoSync where
  reset : Bool
  tdr : Bool
  rt : F32
  this : F32
  nxt : F32
  deriving DecidableEq, Repr

/-- The slave phase at the instant of the forced reset, and whether it has passed the end of its cycle (R580, `spr`). -/
def resetPhase (k : VsoShape) (v : Vso) (rt : F32) : F32 × Bool :=
  let spr := add32 v.sph (mul32 (sub32 one32 rt) k.sf)
  if le32 one32 spr then (sub32 spr one32, true) else (spr, false)

/-- The master phase after its advance, and whether it wrapped (R580, step 1). -/
def masterAdvance (v : Vso) : F32 × Bool :=
  let m := add32 v.mph v.mfreq
  if le32 one32 m then (sub32 m one32, true) else (m, false)

/-- Step 1 of R580 for the master phase `mph` after its advance: the reset pass, when sync is on and the master has
wrapped. -/
def vsoSyncPass (k : VsoShape) (v : Vso) (mph : F32) (wrapped : Bool) : VsoSync :=
  if wrapped && v.sync then
    let rt := div32 mph v.mfreq
    let sp := resetPhase k v rt
    let val := naive32 k sp.1
    { reset := true
      tdr := sp.2 || (!v.high && le32 k.pw sp.1)
      rt := rt
      this := sub32 v.next (mul32 val (thisBlep rt))
      nxt := sub32 zero32 (mul32 val (nextBlep rt)) }
  else { reset := false, tdr := false, rt := zero32, this := v.next, nxt := zero32 }

/-- One tick of a variable-shape oscillator (R580): its registers after the tick and the output sample. -/
def vsoTick (v : Vso) : Vso × F32 :=
  let k := vsoShapeOf v
  let m := masterAdvance v
  let y := vsoSyncPass k v m.1 m.2
  let a0 : VsoAcc := { this := y.this, nxt := y.nxt, sph := add32 v.sph v.sfreq, high := v.high }
  let a1 := if y.tdr || !y.reset then vsoLoop k a0 else a0
  let sph := if y.reset then mul32 y.rt v.sfreq else a1.sph
  let high := if y.reset then false else a1.high
  ({ v with mph := m.1, sph := sph, high := high, prevPw := k.pw, next := add32 a1.nxt (naive32 k sph) },
    sub32 (mul32 two32 a1.this) one32)

/-- `VSO.TICK` (R580): `Illegal` while a parameter is unwritten; on stored parameters out of contract, and on every tick after
a setter operand out of contract until reset, the spec defines no output and no next state (R576, R769,
93_implementation_defined.md U5; log 11). -/
def execVsoTick (inst : BitVec 8) (s : State) : Result :=
  match getVso s inst with
  | none => raiseIllegal s
  | some v =>
    if vsoWritten v then
      if v.undef = 0#5 ∧ vsoInContract v = true then
        retOk (putVso s inst (vsoTick v).1) (encF32 (vsoTick v).2)
      else .refused .vsoParameterOutOfContract
    else raiseIllegal s

end Sys2Proof.Machine
end

