-- ==== Sys2Proof/Machine/Dispatch.lean ====
section
/-! DEFINITION. One arm per constructor of Instr: a direct call of its meaning. -/

namespace Sys2Proof.Machine

def exec (i : Instr) (s : State) : Host.Outcome State Fault Refusal :=
  match i with
  | .cvtI8I8 => Sys2Proof.Machine.execCvtI8I8 s
  | .cvtI8I16 => Sys2Proof.Machine.execCvtI8I16 s
  | .cvtI8I24 => Sys2Proof.Machine.execCvtI8I24 s
  | .cvtI8I32 => Sys2Proof.Machine.execCvtI8I32 s
  | .cvtI8I48 => Sys2Proof.Machine.execCvtI8I48 s
  | .cvtI8I64 => Sys2Proof.Machine.execCvtI8I64 s
  | .cvtI8U8 => Sys2Proof.Machine.execCvtI8U8 s
  | .cvtI8U16 => Sys2Proof.Machine.execCvtI8U16 s
  | .cvtI8U24 => Sys2Proof.Machine.execCvtI8U24 s
  | .cvtI8U32 => Sys2Proof.Machine.execCvtI8U32 s
  | .cvtI8U48 => Sys2Proof.Machine.execCvtI8U48 s
  | .cvtI8U64 => Sys2Proof.Machine.execCvtI8U64 s
  | .cvtI8F32 => Sys2Proof.Machine.execCvtI8F32 s
  | .cvtI8F64 => Sys2Proof.Machine.execCvtI8F64 s
  | .cvtI16I8 => Sys2Proof.Machine.execCvtI16I8 s
  | .cvtI16I16 => Sys2Proof.Machine.execCvtI16I16 s
  | .cvtI16I24 => Sys2Proof.Machine.execCvtI16I24 s
  | .cvtI16I32 => Sys2Proof.Machine.execCvtI16I32 s
  | .cvtI16I48 => Sys2Proof.Machine.execCvtI16I48 s
  | .cvtI16I64 => Sys2Proof.Machine.execCvtI16I64 s
  | .cvtI16U8 => Sys2Proof.Machine.execCvtI16U8 s
  | .cvtI16U16 => Sys2Proof.Machine.execCvtI16U16 s
  | .cvtI16U24 => Sys2Proof.Machine.execCvtI16U24 s
  | .cvtI16U32 => Sys2Proof.Machine.execCvtI16U32 s
  | .cvtI16U48 => Sys2Proof.Machine.execCvtI16U48 s
  | .cvtI16U64 => Sys2Proof.Machine.execCvtI16U64 s
  | .cvtI16F32 => Sys2Proof.Machine.execCvtI16F32 s
  | .cvtI16F64 => Sys2Proof.Machine.execCvtI16F64 s
  | .cvtI24I8 => Sys2Proof.Machine.execCvtI24I8 s
  | .cvtI24I16 => Sys2Proof.Machine.execCvtI24I16 s
  | .cvtI24I24 => Sys2Proof.Machine.execCvtI24I24 s
  | .cvtI24I32 => Sys2Proof.Machine.execCvtI24I32 s
  | .cvtI24I48 => Sys2Proof.Machine.execCvtI24I48 s
  | .cvtI24I64 => Sys2Proof.Machine.execCvtI24I64 s
  | .cvtI24U8 => Sys2Proof.Machine.execCvtI24U8 s
  | .cvtI24U16 => Sys2Proof.Machine.execCvtI24U16 s
  | .cvtI24U24 => Sys2Proof.Machine.execCvtI24U24 s
  | .cvtI24U32 => Sys2Proof.Machine.execCvtI24U32 s
  | .cvtI24U48 => Sys2Proof.Machine.execCvtI24U48 s
  | .cvtI24U64 => Sys2Proof.Machine.execCvtI24U64 s
  | .cvtI24F32 => Sys2Proof.Machine.execCvtI24F32 s
  | .cvtI24F64 => Sys2Proof.Machine.execCvtI24F64 s
  | .cvtI32I8 => Sys2Proof.Machine.execCvtI32I8 s
  | .cvtI32I16 => Sys2Proof.Machine.execCvtI32I16 s
  | .cvtI32I24 => Sys2Proof.Machine.execCvtI32I24 s
  | .cvtI32I32 => Sys2Proof.Machine.execCvtI32I32 s
  | .cvtI32I48 => Sys2Proof.Machine.execCvtI32I48 s
  | .cvtI32I64 => Sys2Proof.Machine.execCvtI32I64 s
  | .cvtI32U8 => Sys2Proof.Machine.execCvtI32U8 s
  | .cvtI32U16 => Sys2Proof.Machine.execCvtI32U16 s
  | .cvtI32U24 => Sys2Proof.Machine.execCvtI32U24 s
  | .cvtI32U32 => Sys2Proof.Machine.execCvtI32U32 s
  | .cvtI32U48 => Sys2Proof.Machine.execCvtI32U48 s
  | .cvtI32U64 => Sys2Proof.Machine.execCvtI32U64 s
  | .cvtI32F32 => Sys2Proof.Machine.execCvtI32F32 s
  | .cvtI32F64 => Sys2Proof.Machine.execCvtI32F64 s
  | .cvtI48I8 => Sys2Proof.Machine.execCvtI48I8 s
  | .cvtI48I16 => Sys2Proof.Machine.execCvtI48I16 s
  | .cvtI48I24 => Sys2Proof.Machine.execCvtI48I24 s
  | .cvtI48I32 => Sys2Proof.Machine.execCvtI48I32 s
  | .cvtI48I48 => Sys2Proof.Machine.execCvtI48I48 s
  | .cvtI48I64 => Sys2Proof.Machine.execCvtI48I64 s
  | .cvtI48U8 => Sys2Proof.Machine.execCvtI48U8 s
  | .cvtI48U16 => Sys2Proof.Machine.execCvtI48U16 s
  | .cvtI48U24 => Sys2Proof.Machine.execCvtI48U24 s
  | .cvtI48U32 => Sys2Proof.Machine.execCvtI48U32 s
  | .cvtI48U48 => Sys2Proof.Machine.execCvtI48U48 s
  | .cvtI48U64 => Sys2Proof.Machine.execCvtI48U64 s
  | .cvtI48F32 => Sys2Proof.Machine.execCvtI48F32 s
  | .cvtI48F64 => Sys2Proof.Machine.execCvtI48F64 s
  | .cvtI64I8 => Sys2Proof.Machine.execCvtI64I8 s
  | .cvtI64I16 => Sys2Proof.Machine.execCvtI64I16 s
  | .cvtI64I24 => Sys2Proof.Machine.execCvtI64I24 s
  | .cvtI64I32 => Sys2Proof.Machine.execCvtI64I32 s
  | .cvtI64I48 => Sys2Proof.Machine.execCvtI64I48 s
  | .cvtI64I64 => Sys2Proof.Machine.execCvtI64I64 s
  | .cvtI64U8 => Sys2Proof.Machine.execCvtI64U8 s
  | .cvtI64U16 => Sys2Proof.Machine.execCvtI64U16 s
  | .cvtI64U24 => Sys2Proof.Machine.execCvtI64U24 s
  | .cvtI64U32 => Sys2Proof.Machine.execCvtI64U32 s
  | .cvtI64U48 => Sys2Proof.Machine.execCvtI64U48 s
  | .cvtI64U64 => Sys2Proof.Machine.execCvtI64U64 s
  | .cvtI64F32 => Sys2Proof.Machine.execCvtI64F32 s
  | .cvtI64F64 => Sys2Proof.Machine.execCvtI64F64 s
  | .cvtU8I8 => Sys2Proof.Machine.execCvtU8I8 s
  | .cvtU8I16 => Sys2Proof.Machine.execCvtU8I16 s
  | .cvtU8I24 => Sys2Proof.Machine.execCvtU8I24 s
  | .cvtU8I32 => Sys2Proof.Machine.execCvtU8I32 s
  | .cvtU8I48 => Sys2Proof.Machine.execCvtU8I48 s
  | .cvtU8I64 => Sys2Proof.Machine.execCvtU8I64 s
  | .cvtU8U8 => Sys2Proof.Machine.execCvtU8U8 s
  | .cvtU8U16 => Sys2Proof.Machine.execCvtU8U16 s
  | .cvtU8U24 => Sys2Proof.Machine.execCvtU8U24 s
  | .cvtU8U32 => Sys2Proof.Machine.execCvtU8U32 s
  | .cvtU8U48 => Sys2Proof.Machine.execCvtU8U48 s
  | .cvtU8U64 => Sys2Proof.Machine.execCvtU8U64 s
  | .cvtU8F32 => Sys2Proof.Machine.execCvtU8F32 s
  | .cvtU8F64 => Sys2Proof.Machine.execCvtU8F64 s
  | .cvtU16I8 => Sys2Proof.Machine.execCvtU16I8 s
  | .cvtU16I16 => Sys2Proof.Machine.execCvtU16I16 s
  | .cvtU16I24 => Sys2Proof.Machine.execCvtU16I24 s
  | .cvtU16I32 => Sys2Proof.Machine.execCvtU16I32 s
  | .cvtU16I48 => Sys2Proof.Machine.execCvtU16I48 s
  | .cvtU16I64 => Sys2Proof.Machine.execCvtU16I64 s
  | .cvtU16U8 => Sys2Proof.Machine.execCvtU16U8 s
  | .cvtU16U16 => Sys2Proof.Machine.execCvtU16U16 s
  | .cvtU16U24 => Sys2Proof.Machine.execCvtU16U24 s
  | .cvtU16U32 => Sys2Proof.Machine.execCvtU16U32 s
  | .cvtU16U48 => Sys2Proof.Machine.execCvtU16U48 s
  | .cvtU16U64 => Sys2Proof.Machine.execCvtU16U64 s
  | .cvtU16F32 => Sys2Proof.Machine.execCvtU16F32 s
  | .cvtU16F64 => Sys2Proof.Machine.execCvtU16F64 s
  | .cvtU24I8 => Sys2Proof.Machine.execCvtU24I8 s
  | .cvtU24I16 => Sys2Proof.Machine.execCvtU24I16 s
  | .cvtU24I24 => Sys2Proof.Machine.execCvtU24I24 s
  | .cvtU24I32 => Sys2Proof.Machine.execCvtU24I32 s
  | .cvtU24I48 => Sys2Proof.Machine.execCvtU24I48 s
  | .cvtU24I64 => Sys2Proof.Machine.execCvtU24I64 s
  | .cvtU24U8 => Sys2Proof.Machine.execCvtU24U8 s
  | .cvtU24U16 => Sys2Proof.Machine.execCvtU24U16 s
  | .cvtU24U24 => Sys2Proof.Machine.execCvtU24U24 s
  | .cvtU24U32 => Sys2Proof.Machine.execCvtU24U32 s
  | .cvtU24U48 => Sys2Proof.Machine.execCvtU24U48 s
  | .cvtU24U64 => Sys2Proof.Machine.execCvtU24U64 s
  | .cvtU24F32 => Sys2Proof.Machine.execCvtU24F32 s
  | .cvtU24F64 => Sys2Proof.Machine.execCvtU24F64 s
  | .cvtU32I8 => Sys2Proof.Machine.execCvtU32I8 s
  | .cvtU32I16 => Sys2Proof.Machine.execCvtU32I16 s
  | .cvtU32I24 => Sys2Proof.Machine.execCvtU32I24 s
  | .cvtU32I32 => Sys2Proof.Machine.execCvtU32I32 s
  | .cvtU32I48 => Sys2Proof.Machine.execCvtU32I48 s
  | .cvtU32I64 => Sys2Proof.Machine.execCvtU32I64 s
  | .cvtU32U8 => Sys2Proof.Machine.execCvtU32U8 s
  | .cvtU32U16 => Sys2Proof.Machine.execCvtU32U16 s
  | .cvtU32U24 => Sys2Proof.Machine.execCvtU32U24 s
  | .cvtU32U32 => Sys2Proof.Machine.execCvtU32U32 s
  | .cvtU32U48 => Sys2Proof.Machine.execCvtU32U48 s
  | .cvtU32U64 => Sys2Proof.Machine.execCvtU32U64 s
  | .cvtU32F32 => Sys2Proof.Machine.execCvtU32F32 s
  | .cvtU32F64 => Sys2Proof.Machine.execCvtU32F64 s
  | .cvtU48I8 => Sys2Proof.Machine.execCvtU48I8 s
  | .cvtU48I16 => Sys2Proof.Machine.execCvtU48I16 s
  | .cvtU48I24 => Sys2Proof.Machine.execCvtU48I24 s
  | .cvtU48I32 => Sys2Proof.Machine.execCvtU48I32 s
  | .cvtU48I48 => Sys2Proof.Machine.execCvtU48I48 s
  | .cvtU48I64 => Sys2Proof.Machine.execCvtU48I64 s
  | .cvtU48U8 => Sys2Proof.Machine.execCvtU48U8 s
  | .cvtU48U16 => Sys2Proof.Machine.execCvtU48U16 s
  | .cvtU48U24 => Sys2Proof.Machine.execCvtU48U24 s
  | .cvtU48U32 => Sys2Proof.Machine.execCvtU48U32 s
  | .cvtU48U48 => Sys2Proof.Machine.execCvtU48U48 s
  | .cvtU48U64 => Sys2Proof.Machine.execCvtU48U64 s
  | .cvtU48F32 => Sys2Proof.Machine.execCvtU48F32 s
  | .cvtU48F64 => Sys2Proof.Machine.execCvtU48F64 s
  | .cvtU64I8 => Sys2Proof.Machine.execCvtU64I8 s
  | .cvtU64I16 => Sys2Proof.Machine.execCvtU64I16 s
  | .cvtU64I24 => Sys2Proof.Machine.execCvtU64I24 s
  | .cvtU64I32 => Sys2Proof.Machine.execCvtU64I32 s
  | .cvtU64I48 => Sys2Proof.Machine.execCvtU64I48 s
  | .cvtU64I64 => Sys2Proof.Machine.execCvtU64I64 s
  | .cvtU64U8 => Sys2Proof.Machine.execCvtU64U8 s
  | .cvtU64U16 => Sys2Proof.Machine.execCvtU64U16 s
  | .cvtU64U24 => Sys2Proof.Machine.execCvtU64U24 s
  | .cvtU64U32 => Sys2Proof.Machine.execCvtU64U32 s
  | .cvtU64U48 => Sys2Proof.Machine.execCvtU64U48 s
  | .cvtU64U64 => Sys2Proof.Machine.execCvtU64U64 s
  | .cvtU64F32 => Sys2Proof.Machine.execCvtU64F32 s
  | .cvtU64F64 => Sys2Proof.Machine.execCvtU64F64 s
  | .cvtF32I8 => Sys2Proof.Machine.execCvtF32I8 s
  | .cvtF32I16 => Sys2Proof.Machine.execCvtF32I16 s
  | .cvtF32I24 => Sys2Proof.Machine.execCvtF32I24 s
  | .cvtF32I32 => Sys2Proof.Machine.execCvtF32I32 s
  | .cvtF32I48 => Sys2Proof.Machine.execCvtF32I48 s
  | .cvtF32I64 => Sys2Proof.Machine.execCvtF32I64 s
  | .cvtF32U8 => Sys2Proof.Machine.execCvtF32U8 s
  | .cvtF32U16 => Sys2Proof.Machine.execCvtF32U16 s
  | .cvtF32U24 => Sys2Proof.Machine.execCvtF32U24 s
  | .cvtF32U32 => Sys2Proof.Machine.execCvtF32U32 s
  | .cvtF32U48 => Sys2Proof.Machine.execCvtF32U48 s
  | .cvtF32U64 => Sys2Proof.Machine.execCvtF32U64 s
  | .cvtF32F32 => Sys2Proof.Machine.execCvtF32F32 s
  | .cvtF32F64 => Sys2Proof.Machine.execCvtF32F64 s
  | .cvtF64I8 => Sys2Proof.Machine.execCvtF64I8 s
  | .cvtF64I16 => Sys2Proof.Machine.execCvtF64I16 s
  | .cvtF64I24 => Sys2Proof.Machine.execCvtF64I24 s
  | .cvtF64I32 => Sys2Proof.Machine.execCvtF64I32 s
  | .cvtF64I48 => Sys2Proof.Machine.execCvtF64I48 s
  | .cvtF64I64 => Sys2Proof.Machine.execCvtF64I64 s
  | .cvtF64U8 => Sys2Proof.Machine.execCvtF64U8 s
  | .cvtF64U16 => Sys2Proof.Machine.execCvtF64U16 s
  | .cvtF64U24 => Sys2Proof.Machine.execCvtF64U24 s
  | .cvtF64U32 => Sys2Proof.Machine.execCvtF64U32 s
  | .cvtF64U48 => Sys2Proof.Machine.execCvtF64U48 s
  | .cvtF64U64 => Sys2Proof.Machine.execCvtF64U64 s
  | .cvtF64F32 => Sys2Proof.Machine.execCvtF64F32 s
  | .cvtF64F64 => Sys2Proof.Machine.execCvtF64F64 s
  | .smpSin df dc => Sys2Proof.Machine.execSmpSin df dc s
  | .smpSaw df dc => Sys2Proof.Machine.execSmpSaw df dc s
  | .smpTri df dc => Sys2Proof.Machine.execSmpTri df dc s
  | .smpSqr df dc => Sys2Proof.Machine.execSmpSqr df dc s
  | .smpCos df dc => Sys2Proof.Machine.execSmpCos df dc s
  | .oscCfg wk dc inst => Sys2Proof.Machine.execOscCfg wk dc inst s
  | .oscNext df inst => Sys2Proof.Machine.execOscNext df inst s
  | .oscAt df inst => Sys2Proof.Machine.execOscAt df inst s
  | .tblBuild wk dc inst => Sys2Proof.Machine.execTblBuild wk dc inst s
  | .tblAlloc wk dc => Sys2Proof.Machine.execTblAlloc wk dc s
  | .lutBind inst => Sys2Proof.Machine.execLutBind inst s
  | .lutNext inst => Sys2Proof.Machine.execLutNext inst s
  | .lutAt inst => Sys2Proof.Machine.execLutAt inst s
  | .vsoSetMaster inst => Sys2Proof.Machine.execVsoSetMaster inst s
  | .vsoSetSlave inst => Sys2Proof.Machine.execVsoSetSlave inst s
  | .vsoSetPw inst => Sys2Proof.Machine.execVsoSetPw inst s
  | .vsoSetShape inst => Sys2Proof.Machine.execVsoSetShape inst s
  | .vsoSetSync g inst => Sys2Proof.Machine.execVsoSetSync g inst s
  | .vsoTick inst => Sys2Proof.Machine.execVsoTick inst s
  | .envSetAttack inst => Sys2Proof.Machine.execEnvSetAttack inst s
  | .envSetDecay inst => Sys2Proof.Machine.execEnvSetDecay inst s
  | .envSetRelease inst => Sys2Proof.Machine.execEnvSetRelease inst s
  | .envSetSustain inst => Sys2Proof.Machine.execEnvSetSustain inst s
  | .envTick g inst => Sys2Proof.Machine.execEnvTick g inst s
  | .envStat inst => Sys2Proof.Machine.execEnvStat inst s

end Sys2Proof.Machine
end

