-- ==== Sys2Proof/Machine/Step.lean ====
section
/-! DEFINITION. One step of the block: the reset event if the host asserts reset (70_reset_and_hazards.md R750), else the
command on the ports (00_scope.md R16). -/

namespace Sys2Proof.Machine

/-- One step. A command word the decoder refuses is an illegal command (R88). -/
def step (s : State) : Host.Outcome State Fault Refusal :=
  if s.rst then .next (hostReset s)
  else
    match decode (fetchCommand s) with
    | .error _ => raiseIllegal s
    | .ok i => exec i s

/-- The state with a command on its ports, given by its bits `w` (log 2). -/
def State.withFetchWord (s : State) (nbits w : Nat) : State := present s (commandOfBits nbits w)

end Sys2Proof.Machine
end

