-- ==== Sys2Proof/Laws/State.lean ====
section
/-! SUPPORT. One lemma per field per update of the state, so that no later proof unfolds a record update. -/

namespace Sys2Proof.Machine

@[simp] theorem finish_cfg (s : State) (a : Status) (w : Word) : (finish s a w).cfg = s.cfg := rfl
@[simp] theorem finish_rst (s : State) (a : Status) (w : Word) : (finish s a w).rst = s.rst := rfl
@[simp] theorem finish_cmd (s : State) (a : Status) (w : Word) : (finish s a w).cmd = s.cmd := rfl
@[simp] theorem finish_opa (s : State) (a : Status) (w : Word) : (finish s a w).opa = s.opa := rfl
@[simp] theorem finish_opb (s : State) (a : Status) (w : Word) : (finish s a w).opb = s.opb := rfl
@[simp] theorem finish_res (s : State) (a : Status) (w : Word) : (finish s a w).res = w := rfl
@[simp] theorem finish_st (s : State) (a : Status) (w : Word) : (finish s a w).st = a := rfl
@[simp] theorem finish_osc (s : State) (a : Status) (w : Word) : (finish s a w).osc = s.osc := rfl
@[simp] theorem finish_lut (s : State) (a : Status) (w : Word) : (finish s a w).lut = s.lut := rfl
@[simp] theorem finish_vso (s : State) (a : Status) (w : Word) : (finish s a w).vso = s.vso := rfl
@[simp] theorem finish_env (s : State) (a : Status) (w : Word) : (finish s a w).env = s.env := rfl
@[simp] theorem finish_cnt (s : State) (a : Status) (w : Word) : (finish s a w).cnt = s.cnt := rfl
@[simp] theorem finish_tags (s : State) (a : Status) (w : Word) : (finish s a w).tags = s.tags := rfl
@[simp] theorem finish_privOk (s : State) (a : Status) (w : Word) : (finish s a w).privOk = s.privOk := rfl
@[simp] theorem finish_mem (s : State) (a : Status) (w : Word) : (finish s a w).mem = s.mem := rfl
@[simp] theorem finish_freeCount (s : State) (a : Status) (w : Word) : (finish s a w).freeCount = s.freeCount := rfl

@[simp] theorem present_cfg (s : State) (c : CommandWords) : (present s c).cfg = s.cfg := rfl
@[simp] theorem present_rst (s : State) (c : CommandWords) : (present s c).rst = false := rfl
@[simp] theorem present_cmd (s : State) (c : CommandWords) : (present s c).cmd = c.cmd := rfl
@[simp] theorem present_opa (s : State) (c : CommandWords) : (present s c).opa = c.opa := rfl
@[simp] theorem present_opb (s : State) (c : CommandWords) : (present s c).opb = c.opb := rfl
@[simp] theorem present_res (s : State) (c : CommandWords) : (present s c).res = s.res := rfl
@[simp] theorem present_st (s : State) (c : CommandWords) : (present s c).st = s.st := rfl
@[simp] theorem present_osc (s : State) (c : CommandWords) : (present s c).osc = s.osc := rfl
@[simp] theorem present_lut (s : State) (c : CommandWords) : (present s c).lut = s.lut := rfl
@[simp] theorem present_vso (s : State) (c : CommandWords) : (present s c).vso = s.vso := rfl
@[simp] theorem present_env (s : State) (c : CommandWords) : (present s c).env = s.env := rfl
@[simp] theorem present_cnt (s : State) (c : CommandWords) : (present s c).cnt = s.cnt := rfl
@[simp] theorem present_tags (s : State) (c : CommandWords) : (present s c).tags = s.tags := rfl
@[simp] theorem present_privOk (s : State) (c : CommandWords) : (present s c).privOk = s.privOk := rfl
@[simp] theorem present_mem (s : State) (c : CommandWords) : (present s c).mem = s.mem := rfl
@[simp] theorem present_freeCount (s : State) (c : CommandWords) : (present s c).freeCount = s.freeCount := rfl

@[simp] theorem putOsc_cfg (s : State) (i : BitVec 8) (o : Osc) : (putOsc s i o).cfg = s.cfg := rfl
@[simp] theorem putOsc_rst (s : State) (i : BitVec 8) (o : Osc) : (putOsc s i o).rst = s.rst := rfl
@[simp] theorem putOsc_cmd (s : State) (i : BitVec 8) (o : Osc) : (putOsc s i o).cmd = s.cmd := rfl
@[simp] theorem putOsc_opa (s : State) (i : BitVec 8) (o : Osc) : (putOsc s i o).opa = s.opa := rfl
@[simp] theorem putOsc_opb (s : State) (i : BitVec 8) (o : Osc) : (putOsc s i o).opb = s.opb := rfl
@[simp] theorem putOsc_res (s : State) (i : BitVec 8) (o : Osc) : (putOsc s i o).res = s.res := rfl
@[simp] theorem putOsc_st (s : State) (i : BitVec 8) (o : Osc) : (putOsc s i o).st = s.st := rfl
@[simp] theorem putOsc_osc (s : State) (i : BitVec 8) (o : Osc) : (putOsc s i o).osc = s.osc.set i.toNat o := rfl
@[simp] theorem putOsc_lut (s : State) (i : BitVec 8) (o : Osc) : (putOsc s i o).lut = s.lut := rfl
@[simp] theorem putOsc_vso (s : State) (i : BitVec 8) (o : Osc) : (putOsc s i o).vso = s.vso := rfl
@[simp] theorem putOsc_env (s : State) (i : BitVec 8) (o : Osc) : (putOsc s i o).env = s.env := rfl
@[simp] theorem putOsc_cnt (s : State) (i : BitVec 8) (o : Osc) : (putOsc s i o).cnt = s.cnt := rfl
@[simp] theorem putOsc_tags (s : State) (i : BitVec 8) (o : Osc) : (putOsc s i o).tags = s.tags := rfl
@[simp] theorem putOsc_privOk (s : State) (i : BitVec 8) (o : Osc) : (putOsc s i o).privOk = s.privOk := rfl
@[simp] theorem putOsc_mem (s : State) (i : BitVec 8) (o : Osc) : (putOsc s i o).mem = s.mem := rfl
@[simp] theorem putOsc_freeCount (s : State) (i : BitVec 8) (o : Osc) : (putOsc s i o).freeCount = s.freeCount := rfl

@[simp] theorem putLut_cfg (s : State) (i : BitVec 8) (l : Lut) : (putLut s i l).cfg = s.cfg := rfl
@[simp] theorem putLut_rst (s : State) (i : BitVec 8) (l : Lut) : (putLut s i l).rst = s.rst := rfl
@[simp] theorem putLut_cmd (s : State) (i : BitVec 8) (l : Lut) : (putLut s i l).cmd = s.cmd := rfl
@[simp] theorem putLut_opa (s : State) (i : BitVec 8) (l : Lut) : (putLut s i l).opa = s.opa := rfl
@[simp] theorem putLut_opb (s : State) (i : BitVec 8) (l : Lut) : (putLut s i l).opb = s.opb := rfl
@[simp] theorem putLut_res (s : State) (i : BitVec 8) (l : Lut) : (putLut s i l).res = s.res := rfl
@[simp] theorem putLut_st (s : State) (i : BitVec 8) (l : Lut) : (putLut s i l).st = s.st := rfl
@[simp] theorem putLut_osc (s : State) (i : BitVec 8) (l : Lut) : (putLut s i l).osc = s.osc := rfl
@[simp] theorem putLut_lut (s : State) (i : BitVec 8) (l : Lut) : (putLut s i l).lut = s.lut.set i.toNat l := rfl
@[simp] theorem putLut_vso (s : State) (i : BitVec 8) (l : Lut) : (putLut s i l).vso = s.vso := rfl
@[simp] theorem putLut_env (s : State) (i : BitVec 8) (l : Lut) : (putLut s i l).env = s.env := rfl
@[simp] theorem putLut_cnt (s : State) (i : BitVec 8) (l : Lut) : (putLut s i l).cnt = s.cnt := rfl
@[simp] theorem putLut_tags (s : State) (i : BitVec 8) (l : Lut) : (putLut s i l).tags = s.tags := rfl
@[simp] theorem putLut_privOk (s : State) (i : BitVec 8) (l : Lut) : (putLut s i l).privOk = s.privOk := rfl
@[simp] theorem putLut_mem (s : State) (i : BitVec 8) (l : Lut) : (putLut s i l).mem = s.mem := rfl
@[simp] theorem putLut_freeCount (s : State) (i : BitVec 8) (l : Lut) : (putLut s i l).freeCount = s.freeCount := rfl

@[simp] theorem putVso_cfg (s : State) (i : BitVec 8) (v : Vso) : (putVso s i v).cfg = s.cfg := rfl
@[simp] theorem putVso_rst (s : State) (i : BitVec 8) (v : Vso) : (putVso s i v).rst = s.rst := rfl
@[simp] theorem putVso_cmd (s : State) (i : BitVec 8) (v : Vso) : (putVso s i v).cmd = s.cmd := rfl
@[simp] theorem putVso_opa (s : State) (i : BitVec 8) (v : Vso) : (putVso s i v).opa = s.opa := rfl
@[simp] theorem putVso_opb (s : State) (i : BitVec 8) (v : Vso) : (putVso s i v).opb = s.opb := rfl
@[simp] theorem putVso_res (s : State) (i : BitVec 8) (v : Vso) : (putVso s i v).res = s.res := rfl
@[simp] theorem putVso_st (s : State) (i : BitVec 8) (v : Vso) : (putVso s i v).st = s.st := rfl
@[simp] theorem putVso_osc (s : State) (i : BitVec 8) (v : Vso) : (putVso s i v).osc = s.osc := rfl
@[simp] theorem putVso_lut (s : State) (i : BitVec 8) (v : Vso) : (putVso s i v).lut = s.lut := rfl
@[simp] theorem putVso_vso (s : State) (i : BitVec 8) (v : Vso) : (putVso s i v).vso = s.vso.set i.toNat v := rfl
@[simp] theorem putVso_env (s : State) (i : BitVec 8) (v : Vso) : (putVso s i v).env = s.env := rfl
@[simp] theorem putVso_cnt (s : State) (i : BitVec 8) (v : Vso) : (putVso s i v).cnt = s.cnt := rfl
@[simp] theorem putVso_tags (s : State) (i : BitVec 8) (v : Vso) : (putVso s i v).tags = s.tags := rfl
@[simp] theorem putVso_privOk (s : State) (i : BitVec 8) (v : Vso) : (putVso s i v).privOk = s.privOk := rfl
@[simp] theorem putVso_mem (s : State) (i : BitVec 8) (v : Vso) : (putVso s i v).mem = s.mem := rfl
@[simp] theorem putVso_freeCount (s : State) (i : BitVec 8) (v : Vso) : (putVso s i v).freeCount = s.freeCount := rfl

@[simp] theorem putEnv_cfg (s : State) (i : BitVec 8) (e : Env) : (putEnv s i e).cfg = s.cfg := rfl
@[simp] theorem putEnv_rst (s : State) (i : BitVec 8) (e : Env) : (putEnv s i e).rst = s.rst := rfl
@[simp] theorem putEnv_cmd (s : State) (i : BitVec 8) (e : Env) : (putEnv s i e).cmd = s.cmd := rfl
@[simp] theorem putEnv_opa (s : State) (i : BitVec 8) (e : Env) : (putEnv s i e).opa = s.opa := rfl
@[simp] theorem putEnv_opb (s : State) (i : BitVec 8) (e : Env) : (putEnv s i e).opb = s.opb := rfl
@[simp] theorem putEnv_res (s : State) (i : BitVec 8) (e : Env) : (putEnv s i e).res = s.res := rfl
@[simp] theorem putEnv_st (s : State) (i : BitVec 8) (e : Env) : (putEnv s i e).st = s.st := rfl
@[simp] theorem putEnv_osc (s : State) (i : BitVec 8) (e : Env) : (putEnv s i e).osc = s.osc := rfl
@[simp] theorem putEnv_lut (s : State) (i : BitVec 8) (e : Env) : (putEnv s i e).lut = s.lut := rfl
@[simp] theorem putEnv_vso (s : State) (i : BitVec 8) (e : Env) : (putEnv s i e).vso = s.vso := rfl
@[simp] theorem putEnv_env (s : State) (i : BitVec 8) (e : Env) : (putEnv s i e).env = s.env.set i.toNat e := rfl
@[simp] theorem putEnv_cnt (s : State) (i : BitVec 8) (e : Env) : (putEnv s i e).cnt = s.cnt := rfl
@[simp] theorem putEnv_tags (s : State) (i : BitVec 8) (e : Env) : (putEnv s i e).tags = s.tags := rfl
@[simp] theorem putEnv_privOk (s : State) (i : BitVec 8) (e : Env) : (putEnv s i e).privOk = s.privOk := rfl
@[simp] theorem putEnv_mem (s : State) (i : BitVec 8) (e : Env) : (putEnv s i e).mem = s.mem := rfl
@[simp] theorem putEnv_freeCount (s : State) (i : BitVec 8) (e : Env) : (putEnv s i e).freeCount = s.freeCount := rfl

@[simp] theorem drawFree_cfg (s : State) (n : Nat) : (drawFree s n).cfg = s.cfg := rfl
@[simp] theorem drawFree_rst (s : State) (n : Nat) : (drawFree s n).rst = s.rst := rfl
@[simp] theorem drawFree_cmd (s : State) (n : Nat) : (drawFree s n).cmd = s.cmd := rfl
@[simp] theorem drawFree_opa (s : State) (n : Nat) : (drawFree s n).opa = s.opa := rfl
@[simp] theorem drawFree_opb (s : State) (n : Nat) : (drawFree s n).opb = s.opb := rfl
@[simp] theorem drawFree_res (s : State) (n : Nat) : (drawFree s n).res = s.res := rfl
@[simp] theorem drawFree_st (s : State) (n : Nat) : (drawFree s n).st = s.st := rfl
@[simp] theorem drawFree_osc (s : State) (n : Nat) : (drawFree s n).osc = s.osc := rfl
@[simp] theorem drawFree_lut (s : State) (n : Nat) : (drawFree s n).lut = s.lut := rfl
@[simp] theorem drawFree_vso (s : State) (n : Nat) : (drawFree s n).vso = s.vso := rfl
@[simp] theorem drawFree_env (s : State) (n : Nat) : (drawFree s n).env = s.env := rfl
@[simp] theorem drawFree_cnt (s : State) (n : Nat) : (drawFree s n).cnt = s.cnt := rfl
@[simp] theorem drawFree_tags (s : State) (n : Nat) : (drawFree s n).tags = s.tags := rfl
@[simp] theorem drawFree_privOk (s : State) (n : Nat) : (drawFree s n).privOk = s.privOk := rfl
@[simp] theorem drawFree_mem (s : State) (n : Nat) : (drawFree s n).mem = s.mem := rfl
@[simp] theorem drawFree_freeCount (s : State) (n : Nat) : (drawFree s n).freeCount = s.freeCount + n := rfl

@[simp] theorem fillTable_cfg (s : State) (h : Handle) (ws : List Word) : (fillTable s h ws).cfg = s.cfg := rfl
@[simp] theorem fillTable_rst (s : State) (h : Handle) (ws : List Word) : (fillTable s h ws).rst = s.rst := rfl
@[simp] theorem fillTable_cmd (s : State) (h : Handle) (ws : List Word) : (fillTable s h ws).cmd = s.cmd := rfl
@[simp] theorem fillTable_opa (s : State) (h : Handle) (ws : List Word) : (fillTable s h ws).opa = s.opa := rfl
@[simp] theorem fillTable_opb (s : State) (h : Handle) (ws : List Word) : (fillTable s h ws).opb = s.opb := rfl
@[simp] theorem fillTable_res (s : State) (h : Handle) (ws : List Word) : (fillTable s h ws).res = s.res := rfl
@[simp] theorem fillTable_st (s : State) (h : Handle) (ws : List Word) : (fillTable s h ws).st = s.st := rfl
@[simp] theorem fillTable_osc (s : State) (h : Handle) (ws : List Word) : (fillTable s h ws).osc = s.osc := rfl
@[simp] theorem fillTable_lut (s : State) (h : Handle) (ws : List Word) : (fillTable s h ws).lut = s.lut := rfl
@[simp] theorem fillTable_vso (s : State) (h : Handle) (ws : List Word) : (fillTable s h ws).vso = s.vso := rfl
@[simp] theorem fillTable_env (s : State) (h : Handle) (ws : List Word) : (fillTable s h ws).env = s.env := rfl
@[simp] theorem fillTable_cnt (s : State) (h : Handle) (ws : List Word) : (fillTable s h ws).cnt = s.cnt := rfl
@[simp] theorem fillTable_tags (s : State) (h : Handle) (ws : List Word) : (fillTable s h ws).tags = s.tags := rfl
@[simp] theorem fillTable_privOk (s : State) (h : Handle) (ws : List Word) : (fillTable s h ws).privOk = s.privOk := rfl
@[simp] theorem fillTable_mem (s : State) (h : Handle) (ws : List Word) : (fillTable s h ws).mem = memFill s.mem h ws := rfl
@[simp] theorem fillTable_freeCount (s : State) (h : Handle) (ws : List Word) : (fillTable s h ws).freeCount = s.freeCount := rfl

@[simp] theorem markPrivOk_cfg (s : State) (j : Nat) : (markPrivOk s j).cfg = s.cfg := rfl
@[simp] theorem markPrivOk_rst (s : State) (j : Nat) : (markPrivOk s j).rst = s.rst := rfl
@[simp] theorem markPrivOk_cmd (s : State) (j : Nat) : (markPrivOk s j).cmd = s.cmd := rfl
@[simp] theorem markPrivOk_opa (s : State) (j : Nat) : (markPrivOk s j).opa = s.opa := rfl
@[simp] theorem markPrivOk_opb (s : State) (j : Nat) : (markPrivOk s j).opb = s.opb := rfl
@[simp] theorem markPrivOk_res (s : State) (j : Nat) : (markPrivOk s j).res = s.res := rfl
@[simp] theorem markPrivOk_st (s : State) (j : Nat) : (markPrivOk s j).st = s.st := rfl
@[simp] theorem markPrivOk_osc (s : State) (j : Nat) : (markPrivOk s j).osc = s.osc := rfl
@[simp] theorem markPrivOk_lut (s : State) (j : Nat) : (markPrivOk s j).lut = s.lut := rfl
@[simp] theorem markPrivOk_vso (s : State) (j : Nat) : (markPrivOk s j).vso = s.vso := rfl
@[simp] theorem markPrivOk_env (s : State) (j : Nat) : (markPrivOk s j).env = s.env := rfl
@[simp] theorem markPrivOk_cnt (s : State) (j : Nat) : (markPrivOk s j).cnt = s.cnt := rfl
@[simp] theorem markPrivOk_tags (s : State) (j : Nat) : (markPrivOk s j).tags = s.tags := rfl
@[simp] theorem markPrivOk_privOk (s : State) (j : Nat) : (markPrivOk s j).privOk = s.privOk.set j true := rfl
@[simp] theorem markPrivOk_mem (s : State) (j : Nat) : (markPrivOk s j).mem = s.mem := rfl
@[simp] theorem markPrivOk_freeCount (s : State) (j : Nat) : (markPrivOk s j).freeCount = s.freeCount := rfl

@[simp] theorem pushTag_cfg (s : State) (t : Tag) : (pushTag s t).cfg = s.cfg := rfl
@[simp] theorem pushTag_rst (s : State) (t : Tag) : (pushTag s t).rst = s.rst := rfl
@[simp] theorem pushTag_cmd (s : State) (t : Tag) : (pushTag s t).cmd = s.cmd := rfl
@[simp] theorem pushTag_opa (s : State) (t : Tag) : (pushTag s t).opa = s.opa := rfl
@[simp] theorem pushTag_opb (s : State) (t : Tag) : (pushTag s t).opb = s.opb := rfl
@[simp] theorem pushTag_res (s : State) (t : Tag) : (pushTag s t).res = s.res := rfl
@[simp] theorem pushTag_st (s : State) (t : Tag) : (pushTag s t).st = s.st := rfl
@[simp] theorem pushTag_osc (s : State) (t : Tag) : (pushTag s t).osc = s.osc := rfl
@[simp] theorem pushTag_lut (s : State) (t : Tag) : (pushTag s t).lut = s.lut := rfl
@[simp] theorem pushTag_vso (s : State) (t : Tag) : (pushTag s t).vso = s.vso := rfl
@[simp] theorem pushTag_env (s : State) (t : Tag) : (pushTag s t).env = s.env := rfl
@[simp] theorem pushTag_cnt (s : State) (t : Tag) : (pushTag s t).cnt = s.cnt + 1 := rfl
@[simp] theorem pushTag_tags (s : State) (t : Tag) : (pushTag s t).tags = s.tags.set s.cnt t := rfl
@[simp] theorem pushTag_privOk (s : State) (t : Tag) : (pushTag s t).privOk = s.privOk := rfl
@[simp] theorem pushTag_mem (s : State) (t : Tag) : (pushTag s t).mem = s.mem := rfl
@[simp] theorem pushTag_freeCount (s : State) (t : Tag) : (pushTag s t).freeCount = s.freeCount := rfl

@[simp] theorem hostReset_cfg (s : State) : (hostReset s).cfg = s.cfg := rfl
@[simp] theorem hostReset_rst (s : State) : (hostReset s).rst = s.rst := rfl
@[simp] theorem hostReset_cmd (s : State) : (hostReset s).cmd = s.cmd := rfl
@[simp] theorem hostReset_opa (s : State) : (hostReset s).opa = s.opa := rfl
@[simp] theorem hostReset_opb (s : State) : (hostReset s).opb = s.opb := rfl
@[simp] theorem hostReset_res (s : State) : (hostReset s).res = 0#64 := rfl
@[simp] theorem hostReset_st (s : State) : (hostReset s).st = .ok := rfl
@[simp] theorem hostReset_osc (s : State) : (hostReset s).osc = List.replicate s.cfg.nOsc {} := rfl
@[simp] theorem hostReset_lut (s : State) : (hostReset s).lut = List.replicate s.cfg.nLut {} := rfl
@[simp] theorem hostReset_vso (s : State) : (hostReset s).vso = List.replicate s.cfg.nVso {} := rfl
@[simp] theorem hostReset_env (s : State) : (hostReset s).env = List.replicate s.cfg.nEnv {} := rfl
@[simp] theorem hostReset_cnt (s : State) : (hostReset s).cnt = 0 := rfl
@[simp] theorem hostReset_tags (s : State) : (hostReset s).tags = List.replicate s.cfg.cacheCap {} := rfl
@[simp] theorem hostReset_privOk (s : State) : (hostReset s).privOk = List.replicate s.cfg.privLen.length false := rfl
@[simp] theorem hostReset_mem (s : State) : (hostReset s).mem = [] := rfl
@[simp] theorem hostReset_freeCount (s : State) : (hostReset s).freeCount = s.freeCount := rfl

/-- The second of two ends of a command is the one that stays. -/
@[simp] theorem finish_finish (s : State) (a b : Status) (v w : Word) : finish (finish s a v) b w = finish s b w := rfl

/-- Ending a command with the status and result it already has changes nothing. -/
@[simp] theorem finish_self (s : State) : finish s s.st s.res = s := rfl

/-- `getOsc` answers exactly the listed registers of an index below the count. -/
theorem getOsc_eq_some (s : State) (i : BitVec 8) (r : Osc) :
    getOsc s i = some r ↔ i.toNat < s.cfg.nOsc ∧ s.osc[i.toNat]? = some r := by
  unfold getOsc
  split <;> simp_all

/-- `getOsc` answers nothing exactly for an index that is not below the count or not listed. -/
theorem getOsc_eq_none (s : State) (i : BitVec 8) :
    getOsc s i = none ↔ s.cfg.nOsc ≤ i.toNat ∨ s.osc.length ≤ i.toNat := by
  unfold getOsc
  split <;> simp <;> omega

/-- After a write the registers of the instance read as written. -/
theorem getOsc_put_same (s : State) (i : BitVec 8) (r r' : Osc) (h : getOsc s i = some r') :
    getOsc (putOsc s i r) i = some r := by
  obtain ⟨h1, h2⟩ := (getOsc_eq_some s i r').1 h
  refine (getOsc_eq_some _ _ _).2 ⟨h1, ?_⟩
  have h3 : i.toNat < s.osc.length := (List.getElem?_eq_some_iff.1 h2).1
  simp [h3]

/-- A write to one instance leaves every other one alone (R723). -/
theorem getOsc_put_other (s : State) (i k : BitVec 8) (r : Osc) (h : k ≠ i) :
    getOsc (putOsc s i r) k = getOsc s k := by
  have h1 : i.toNat ≠ k.toNat := fun e => h (BitVec.eq_of_toNat_eq e.symm)
  simp [getOsc, List.getElem?_set_ne h1]

/-- `getLut` answers exactly the listed registers of an index below the count. -/
theorem getLut_eq_some (s : State) (i : BitVec 8) (r : Lut) :
    getLut s i = some r ↔ i.toNat < s.cfg.nLut ∧ s.lut[i.toNat]? = some r := by
  unfold getLut
  split <;> simp_all

/-- `getLut` answers nothing exactly for an index that is not below the count or not listed. -/
theorem getLut_eq_none (s : State) (i : BitVec 8) :
    getLut s i = none ↔ s.cfg.nLut ≤ i.toNat ∨ s.lut.length ≤ i.toNat := by
  unfold getLut
  split <;> simp <;> omega

/-- After a write the registers of the instance read as written. -/
theorem getLut_put_same (s : State) (i : BitVec 8) (r r' : Lut) (h : getLut s i = some r') :
    getLut (putLut s i r) i = some r := by
  obtain ⟨h1, h2⟩ := (getLut_eq_some s i r').1 h
  refine (getLut_eq_some _ _ _).2 ⟨h1, ?_⟩
  have h3 : i.toNat < s.lut.length := (List.getElem?_eq_some_iff.1 h2).1
  simp [h3]

/-- A write to one instance leaves every other one alone (R723). -/
theorem getLut_put_other (s : State) (i k : BitVec 8) (r : Lut) (h : k ≠ i) :
    getLut (putLut s i r) k = getLut s k := by
  have h1 : i.toNat ≠ k.toNat := fun e => h (BitVec.eq_of_toNat_eq e.symm)
  simp [getLut, List.getElem?_set_ne h1]

/-- `getVso` answers exactly the listed registers of an index below the count. -/
theorem getVso_eq_some (s : State) (i : BitVec 8) (r : Vso) :
    getVso s i = some r ↔ i.toNat < s.cfg.nVso ∧ s.vso[i.toNat]? = some r := by
  unfold getVso
  split <;> simp_all

/-- `getVso` answers nothing exactly for an index that is not below the count or not listed. -/
theorem getVso_eq_none (s : State) (i : BitVec 8) :
    getVso s i = none ↔ s.cfg.nVso ≤ i.toNat ∨ s.vso.length ≤ i.toNat := by
  unfold getVso
  split <;> simp <;> omega

/-- After a write the registers of the instance read as written. -/
theorem getVso_put_same (s : State) (i : BitVec 8) (r r' : Vso) (h : getVso s i = some r') :
    getVso (putVso s i r) i = some r := by
  obtain ⟨h1, h2⟩ := (getVso_eq_some s i r').1 h
  refine (getVso_eq_some _ _ _).2 ⟨h1, ?_⟩
  have h3 : i.toNat < s.vso.length := (List.getElem?_eq_some_iff.1 h2).1
  simp [h3]

/-- A write to one instance leaves every other one alone (R723). -/
theorem getVso_put_other (s : State) (i k : BitVec 8) (r : Vso) (h : k ≠ i) :
    getVso (putVso s i r) k = getVso s k := by
  have h1 : i.toNat ≠ k.toNat := fun e => h (BitVec.eq_of_toNat_eq e.symm)
  simp [getVso, List.getElem?_set_ne h1]

/-- `getEnv` answers exactly the listed registers of an index below the count. -/
theorem getEnv_eq_some (s : State) (i : BitVec 8) (r : Env) :
    getEnv s i = some r ↔ i.toNat < s.cfg.nEnv ∧ s.env[i.toNat]? = some r := by
  unfold getEnv
  split <;> simp_all

/-- `getEnv` answers nothing exactly for an index that is not below the count or not listed. -/
theorem getEnv_eq_none (s : State) (i : BitVec 8) :
    getEnv s i = none ↔ s.cfg.nEnv ≤ i.toNat ∨ s.env.length ≤ i.toNat := by
  unfold getEnv
  split <;> simp <;> omega

/-- After a write the registers of the instance read as written. -/
theorem getEnv_put_same (s : State) (i : BitVec 8) (r r' : Env) (h : getEnv s i = some r') :
    getEnv (putEnv s i r) i = some r := by
  obtain ⟨h1, h2⟩ := (getEnv_eq_some s i r').1 h
  refine (getEnv_eq_some _ _ _).2 ⟨h1, ?_⟩
  have h3 : i.toNat < s.env.length := (List.getElem?_eq_some_iff.1 h2).1
  simp [h3]

/-- A write to one instance leaves every other one alone (R723). -/
theorem getEnv_put_other (s : State) (i k : BitVec 8) (r : Env) (h : k ≠ i) :
    getEnv (putEnv s i r) k = getEnv s k := by
  have h1 : i.toNat ≠ k.toNat := fun e => h (BitVec.eq_of_toNat_eq e.symm)
  simp [getEnv, List.getElem?_set_ne h1]

end Sys2Proof.Machine
end

