-- ==== Sys2Proof/Laws/Memory.lean ====
section
/-! SUPPORT. The laws of the table memory: the canonical form is kept, a table reads back what it was filled with, and
filling a table leaves every other one alone. -/

namespace Sys2Proof.Machine

/-- Reading past a part of the memory that does not hold the key. -/
theorem memLookup_append_of_forall_ne (k : Nat) (m n : Memory) (h : ∀ c ∈ m, c.1 ≠ k) :
    memLookup k (m ++ n) = memLookup k n := by
  induction m with
  | nil => rfl
  | cons c m ih =>
    have hc := h c (by simp)
    simp only [List.cons_append, memLookup, if_neg hc]
    exact ih fun c' h' => h c' (by simp [h'])

/-- A key that is not listed reads as nothing. -/
theorem memLookup_eq_none (k : Nat) (m : Memory) (h : ∀ c ∈ m, c.1 ≠ k) : memLookup k m = none := by
  simpa [memLookup] using memLookup_append_of_forall_ne k m [] h

/-- Reading a key that a later part of the memory does not hold. -/
theorem memLookup_append_left (k : Nat) (m n : Memory) (h : ∀ c ∈ n, c.1 ≠ k) :
    memLookup k (m ++ n) = memLookup k m := by
  induction m with
  | nil => simpa [memLookup] using memLookup_eq_none k n h
  | cons c m ih =>
    simp only [List.cons_append, memLookup]
    split
    · rfl
    · exact ih

/-- Keeping only some keys changes no read of a key that is kept. -/
theorem memLookup_filter (k : Nat) (m : Memory) (p : Nat → Bool) (h : p k = true) :
    memLookup k (m.filter fun c => p c.1) = memLookup k m := by
  induction m with
  | nil => rfl
  | cons c m ih =>
    by_cases hc : c.1 = k
    · have hp : p c.1 = true := by rw [hc]; exact h
      rw [List.filter_cons_of_pos (by simpa using hp)]
      simp [memLookup, hc]
    · by_cases hp : p c.1 = true
      · rw [List.filter_cons_of_pos (by simpa using hp)]
        simp [memLookup, hc, ih]
      · rw [List.filter_cons_of_neg (by simpa using hp)]
        simp [memLookup, hc, ih]

/-- The keys of a table's cells are consecutive. -/
theorem tableCells_keys (ws : List Word) (k : Nat) : ∀ c ∈ tableCells k ws, k ≤ c.1 ∧ c.1 < k + ws.length := by
  induction ws generalizing k with
  | nil => simp [tableCells]
  | cons w ws ih =>
    intro c hc
    simp only [tableCells, List.mem_cons] at hc
    rcases hc with rfl | hc
    · simp
    · have := ih (k + 1) c hc
      simp only [List.length_cons]
      omega

/-- A table's cells are in canonical form. -/
theorem tableCells_wf (ws : List Word) (k : Nat) : Memory.wf (tableCells k ws) := by
  induction ws generalizing k with
  | nil => simp [tableCells]
  | cons w ws ih =>
    refine List.Pairwise.cons (fun c hc => ?_) (ih (k + 1))
    have := tableCells_keys ws (k + 1) c hc
    show k < c.1
    omega

/-- A table's cells read back in order. -/
theorem memLookup_tableCells (ws : List Word) (k i : Nat) : memLookup (k + i) (tableCells k ws) = ws[i]? := by
  induction ws generalizing k i with
  | nil => simp [tableCells, memLookup]
  | cons w ws ih =>
    cases i with
    | zero => simp [tableCells, memLookup]
    | succ i =>
      have h : ¬k = k + (i + 1) := by omega
      simp only [tableCells, memLookup, if_neg h, List.getElem?_cons_succ]
      rw [show k + (i + 1) = k + 1 + i by omega]
      exact ih (k + 1) i

/-- Filling a table keeps the canonical form of the memory. -/
theorem memFill_wf (m : Memory) (h : Handle) (ws : List Word) (hm : m.wf) (hw : ws.length ≤ 2 ^ 32) :
    (memFill m h ws).wf := by
  simp only [memFill, Memory.wf, List.pairwise_append]
  refine ⟨⟨hm.filter _, tableCells_wf ws _, ?_⟩, hm.filter _, ?_⟩
  · intro a ha b hb
    have h1 := tableCells_keys ws _ b hb
    simp only [List.mem_filter, decide_eq_true_eq] at ha
    omega
  · intro a ha b hb
    simp only [List.mem_filter, decide_eq_true_eq] at hb
    simp only [List.mem_append, List.mem_filter, decide_eq_true_eq] at ha
    rcases ha with ha | ha
    · omega
    · have h1 := tableCells_keys ws _ a ha
      omega

/-- A filled table reads as it was filled. -/
theorem memRead_memFill_same (m : Memory) (h : Handle) (ws : List Word) (i : BitVec 32) :
    memRead (memFill m h ws) h i = ws[i.toNat]? := by
  have hi := i.isLt
  unfold memRead memFill cellKey
  rw [List.append_assoc, memLookup_append_of_forall_ne, memLookup_append_left, memLookup_tableCells]
  · intro c hc
    simp only [List.mem_filter, decide_eq_true_eq] at hc
    omega
  · intro c hc
    simp only [List.mem_filter, decide_eq_true_eq] at hc
    omega

/-- Filling a table leaves every entry of every other table as it was (R63). -/
theorem memRead_memFill_other (m : Memory) (h h' : Handle) (ws : List Word) (i : BitVec 32)
    (hw : ws.length ≤ 2 ^ 32) (hne : h' ≠ h) : memRead (memFill m h ws) h' i = memRead m h' i := by
  have hi := i.isLt
  have h1 : h'.toNat ≠ h.toNat := fun e => hne (BitVec.eq_of_toNat_eq e)
  have hb : ∀ c ∈ tableCells (h.toNat * 2 ^ 32) ws, c.1 ≠ cellKey h' i := by
    intro c hc
    have := tableCells_keys ws _ c hc
    unfold cellKey
    omega
  unfold memRead memFill
  by_cases hlt : h'.toNat < h.toNat
  · rw [memLookup_append_left, memLookup_append_left _ _ _ hb]
    · exact memLookup_filter _ m (fun k => decide (k < h.toNat * 2 ^ 32)) (decide_eq_true (by unfold cellKey; omega))
    · intro c hc
      simp only [List.mem_filter, decide_eq_true_eq] at hc
      unfold cellKey
      omega
  · rw [memLookup_append_of_forall_ne]
    · exact memLookup_filter _ m (fun k => decide (h.toNat * 2 ^ 32 + 2 ^ 32 ≤ k)) (decide_eq_true (by unfold cellKey; omega))
    · intro c hc
      rcases List.mem_append.1 hc with hc | hc
      · simp only [List.mem_filter, decide_eq_true_eq] at hc
        unfold cellKey
        omega
      · exact hb c hc

/-- The memory after reset is in canonical form. -/
theorem reset_mem_wf : State.reset.mem.wf := List.Pairwise.nil

/-- Two cache entries below 2^31 have different handles. -/
theorem cacheHandle_inj (a b : Nat) (ha : a < 2 ^ 31) (hb : b < 2 ^ 31) (h : cacheHandle a = cacheHandle b) :
    a = b := by
  have h1 := congrArg BitVec.toNat h
  simp only [cacheHandle, BitVec.toNat_append, BitVec.toNat_ofNat] at h1
  simp at h1
  omega

/-- The handle of a cache entry is the entry's number. -/
theorem cacheHandle_toNat (e : Nat) (h : e < 2 ^ 31) : (cacheHandle e).toNat = e := by
  simp only [cacheHandle, BitVec.toNat_append, BitVec.toNat_ofNat]
  simp
  omega

/-- The handle of a private buffer is the buffer's number with bit 31 set. -/
theorem privHandle_toNat (j : Nat) (h : j < 2 ^ 31) : (privHandle j).toNat = 2 ^ 31 + j := by
  simp only [privHandle, BitVec.toNat_append, BitVec.toNat_ofNat]
  have h2 : j % 2 ^ 31 = j := Nat.mod_eq_of_lt h
  rw [h2, show (1 % 2 ^ 1) = 1 by rfl, ← Nat.shiftLeft_add_eq_or_of_lt h]
  simp [Nat.shiftLeft_eq]

/-- A cache handle and a private handle differ. -/
theorem cacheHandle_ne_privHandle (e j : Nat) (he : e < 2 ^ 31) (hj : j < 2 ^ 31) : cacheHandle e ≠ privHandle j := by
  intro h
  have h1 := congrArg BitVec.toNat h
  rw [cacheHandle_toNat e he, privHandle_toNat j hj] at h1
  omega

end Sys2Proof.Machine
end

