-- ==== Sys2Proof/Safety.lean ====
section
/-! DEFINITION. The terms claims are stated in: what a correctly rounded result is, which conversions lose nothing, and
what holds of the block between commands. -/

namespace Sys2Proof.Machine

/-- The column "fields" of the opcode map (30_encoding.md R86), none for an opcode that has no row. -/
def usedFields (opc : BitVec 8) : Option FieldUse :=
  if opc = 0x01#8 then some { df := true, sf := true }
  else if opc = 0x10#8 then some { df := true, wk := true, dc := true }
  else if opc = 0x11#8 ∨ opc = 0x18#8 then some { wk := true, dc := true, inst := true }
  else if opc = 0x19#8 then some { wk := true, dc := true }
  else if opc = 0x12#8 ∨ opc = 0x13#8 then some { df := true, inst := true }
  else if opc ∈ [0x1A#8, 0x1B#8, 0x1C#8, 0x20#8, 0x21#8, 0x22#8, 0x23#8, 0x25#8, 0x30#8, 0x31#8, 0x32#8, 0x33#8, 0x35#8]
    then some { inst := true }
  else if opc = 0x24#8 ∨ opc = 0x34#8 then some { g := true, inst := true }
  else none

/-- Check (3) of 30_encoding.md R88 fails: a used format code is 14 or 15. -/
abbrev ReservedFormat (u : FieldUse) (c : BitVec 32) : Prop :=
  (u.df = true ∧ 14 ≤ (dfField c).toNat) ∨ (u.sf = true ∧ 14 ≤ (sfField c).toNat)

/-- Check (4) of 30_encoding.md R88 fails: a used kind code is above 4, or is 4 with an opcode other than `SMP`. -/
abbrev ReservedKind (u : FieldUse) (c : BitVec 32) : Prop :=
  u.wk = true ∧ (4 < (wkField c).toNat ∨ ((wkField c).toNat = 4 ∧ opcField c ≠ 0x10#8))

/-- `n` presentations of the same command, stopping at the first fault or refusal. -/
def repeatExec (i : Instr) : Nat → State → Result
  | 0, s => .next s
  | n + 1, s =>
    match repeatExec i n s with
    | .next t => exec i t
    | r => r

/-- `v` is in [0.0, 1.0). -/
abbrev InUnit (v : F32) : Prop := le32 zero32 v = true ∧ lt32 v one32 = true

/-- `y` is `RN32` of the real `n / d` (00_scope.md R9), said without the algorithm: an infinity of the sign of `n` at or
above the overflow threshold `(2^25 - 1) * 2^103`, else a finite value no finite value is nearer than, with an even
significand if another one is as near. -/
abbrev IsRN32 (n : Int) (d : Nat) (y : F32) : Prop :=
  if (2 ^ 25 - 1) * 2 ^ 252 * d ≤ n.natAbs * 2 ^ 149 then isInf32 y = true ∧ sign32 y = decide (n < 0)
  else isFin32 y = true ∧ ∀ z : F32, isFin32 z = true → int32 z ≠ int32 y →
    (n * 2 ^ 149 - int32 y * d).natAbs < (n * 2 ^ 149 - int32 z * d).natAbs ∨
    ((n * 2 ^ 149 - int32 y * d).natAbs = (n * 2 ^ 149 - int32 z * d).natAbs ∧ mag32 y % 2 = 0)

/-- `y` is `RN64` of the real `n / d` (00_scope.md R9); the overflow threshold is `(2^54 - 1) * 2^970`. -/
abbrev IsRN64 (n : Int) (d : Nat) (y : F64) : Prop :=
  if (2 ^ 54 - 1) * 2 ^ 2044 * d ≤ n.natAbs * 2 ^ 1074 then isInf64 y = true ∧ sign64 y = decide (n < 0)
  else isFin64 y = true ∧ ∀ z : F64, isFin64 z = true → int64 z ≠ int64 y →
    (n * 2 ^ 1074 - int64 y * d).natAbs < (n * 2 ^ 1074 - int64 z * d).natAbs ∨
    ((n * 2 ^ 1074 - int64 y * d).natAbs = (n * 2 ^ 1074 - int64 z * d).natAbs ∧ mag64 y % 2 = 0)

/-- The pairs of formats that 40_convert.md R123 lists as lossless. -/
def lossless (a b : Fmt) : Bool :=
  a == b || (a.isInt && b.isInt && decide (a.width ≤ b.width)) ||
  (a.isInt && b == .f32 && decide (a.width ≤ 24)) ||
  (a.isInt && b == .f64 && decide (a.width ≤ 48)) || (a == .f32 && b == .f64)

/-- The lists of the state have the lengths the configuration record gives them, and the record keeps its constraints
(00_scope.md R6). -/
abbrev SizesOk (s : State) : Prop :=
  s.cfg.wf ∧ s.osc.length = s.cfg.nOsc ∧ s.lut.length = s.cfg.nLut ∧ s.vso.length = s.cfg.nVso ∧
  s.env.length = s.cfg.nEnv ∧ s.tags.length = s.cfg.cacheCap ∧ s.privOk.length = s.cfg.nPriv

/-- Every entry of the table that `h` names has been written, with a canonical word of `TABLE_FMT` (20_memory.md R61). -/
abbrev TableFilled (s : State) (h : Handle) : Prop :=
  ∀ i < s.cfg.sampleRate,
    ((memRead s.mem h (BitVec.ofNat 32 i)).any fun w => canonical s.cfg.tableFmt w == w) = true

/-- The cache and the private buffers: `CNT` is within the capacity (10_state.md R31), the tags of valid entries hold no
cosine, and every table with a valid handle is filled, a private one having `SAMPLE_RATE` entries (47_table_lut.md R540). -/
abbrev TablesOk (s : State) : Prop :=
  s.mem.wf ∧ s.cnt ≤ s.cfg.cacheCap ∧ (∀ t ∈ s.tags.take s.cnt, t.kind.isSourceKind = true) ∧
  (∀ e < s.cnt, TableFilled s (cacheHandle e)) ∧
  ∀ j < s.cfg.nPriv, s.privOk[j]? = some true →
    s.cfg.privLen[j]? = some s.cfg.sampleRate ∧ TableFilled s (privHandle j)

/-- The readers: a bound one holds a valid handle and an index inside its table (10_state.md R26, 20_memory.md R65), an
unbound one the index 0. -/
abbrev ReadersOk (s : State) : Prop :=
  ∀ l ∈ s.lut, if l.bound then handleValid s l.tbl = true ∧ l.idx.toNat < s.cfg.sampleRate else l.idx = 0#32

/-- What holds of the block between commands, apart from binary32 values. -/
abbrev Wired (s : State) : Prop :=
  SizesOk s ∧ TablesOk s ∧ ReadersOk s ∧ ∀ o ∈ s.osc, o.cfg = true → o.kind.isSourceKind = true

/-- Setter `k` has run and has only been given operands in contract since reset: flag `k` of `wr` is set and mark `k` is
not. -/
def vsoDefined (v : Vso) (k : Nat) : Bool := v.wr.getLsbD k && !v.undef.getLsbD k

/-- The parameters of a variable-shape oscillator that have been written in contract meet 48_vso.md R576. -/
abbrev VsoParamsOk (v : Vso) : Prop :=
  (vsoDefined v 0 = true → within32 zero32 v.mfreq quarter32 = true) ∧
  (vsoDefined v 1 = true → lt32 zero32 v.sfreq = true ∧ le32 v.sfreq quarter32 = true) ∧
  (vsoDefined v 2 = true → isFin32 v.pwReq = true) ∧
  (vsoDefined v 3 = true → within32 zero32 v.shape one32 = true)

/-- Every phase is in [0, 1) (10_state.md R25, R27), and every parameter written in contract is in contract. -/
abbrev PhasesOk (s : State) : Prop :=
  (∀ o ∈ s.osc, InUnit o.phase) ∧ ∀ v ∈ s.vso, InUnit v.mph ∧ InUnit v.sph ∧ VsoParamsOk v

/-- Setter `k` has run and has only been given operands in contract since reset, so that its registers hold defined values. -/
def envDefined (e : Env) (k : Nat) : Bool := e.wr.getLsbD k && !e.undef.getLsbD k

/-- The legal values of the parameter registers of an envelope, once written in contract (10_state.md R30). -/
abbrev EnvParamsOk (e : Env) : Prop :=
  (envDefined e 0 = true → within32 zero32 e.d0a one32 = true ∧ within32 0x3F8147AE#32 e.level 0x4124F5C3#32 = true) ∧
  (envDefined e 1 = true → within32 zero32 e.d0d one32 = true) ∧
  (envDefined e 2 = true → within32 zero32 e.d0r one32 = true) ∧
  (envDefined e 3 = true → e.sus = negFloor32 ∨ (lt32 zero32 e.sus = true ∧ le32 e.sus one32 = true))

/-- An envelope between commands (49_adsr.md R611): its running value is in [0, 1], and is `+0.0` in Init. -/
abbrev EnvOk (e : Env) : Prop :=
  within32 zero32 e.x one32 = true ∧ (e.state = .init → e.x = zero32) ∧ EnvParamsOk e

/-- Every envelope is as it must be between commands. -/
abbrev EnvelopesOk (s : State) : Prop := ∀ e ∈ s.env, EnvOk e

end Sys2Proof.Machine
end

