-- ==== Sys2Proof/Laws/Ops.lean ====
section
/-! SUPPORT. For each shared operation one lemma that says once what it can do; callers cite it and need not unfold it. -/

namespace Sys2Proof.Machine

/-- What `return` can do. -/
theorem retOk_eq_next (s t : State) (w : Word) : retOk s w = .next t ↔ t = finish s .ok w := by
  constructor
  · intro h
    cases h
    rfl
  · rintro rfl
    rfl

/-- What `raise` can do. -/
theorem raise_eq_next (s t : State) (e : Status) (w : Word) : raise s e w = .next t ↔ t = finish s e w := by
  constructor
  · intro h
    cases h
    rfl
  · rintro rfl
    rfl

/-- What `raise Illegal` can do. -/
theorem raiseIllegal_eq_next (s t : State) : raiseIllegal s = .next t ↔ t = finish s .illegal 0#64 :=
  raise_eq_next s t .illegal 0#64

/-- What `CVT` can do: it always answers, and ends with the converted word. -/
theorem convert_eq_next (sf df : Fmt) (s t : State) :
    convert sf df s = .next t ↔ t = finish s .ok (cvtResult sf df s.opa) := retOk_eq_next s t _

/-- What a `SMP` command can do when it answers a next state: the frequency was in contract, and it ends with the sample. -/
theorem sampleAt_eq_next (wk : Wave) (df : Fmt) (dc : Duty) (s t : State) :
    sampleAt wk df dc s = .next t ↔
      phaseInContract s.cfg (opaIndex s) (opbF32 s) = true ∧
      t = finish s .ok (smpWord s.cfg wk df dc (opaIndex s) (opbF32 s)) := by
  unfold sampleAt
  split
  · simp [retOk_eq_next, *]
  · simp [*]

/-- What a setter of a variable-shape oscillator can do: it writes the instance, or there is none and it is illegal. -/
theorem vsoSet_eq_next (inst : BitVec 8) (k : Nat) (ok : Bool) (f : Vso → Vso) (s t : State) :
    vsoSet inst k ok f s = .next t ↔
      (getVso s inst = none ∧ t = finish s .illegal 0#64) ∨
      ∃ v, getVso s inst = some v ∧
        t = finish (putVso s inst { f v with wr := setFlag v.wr k, undef := markUndef v.undef k ok }) .ok 0#64 := by
  unfold vsoSet
  split <;> simp_all [retOk_eq_next, raiseIllegal_eq_next]

/-- What a setter of an envelope can do: it writes the instance, in contract or with free values, or there is none and it is
illegal. -/
theorem envSet_eq_next (inst : BitVec 8) (k n : Nat) (ok : Bool) (good bad : Env → Env) (s t : State) :
    envSet inst k n ok good bad s = .next t ↔
      (getEnv s inst = none ∧ t = finish s .illegal 0#64) ∨
      ∃ e, getEnv s inst = some e ∧
        ((ok = true ∧ t = finish
            (putEnv s inst { good e with wr := setFlag e.wr k, undef := markUndef e.undef k true }) .ok 0#64) ∨
         (ok = false ∧ t = finish
            (drawFree (putEnv s inst { bad e with wr := setFlag e.wr k, undef := markUndef e.undef k false }) n) .ok 0#64)) := by
  unfold envSet
  split
  · simp_all [raiseIllegal_eq_next]
  · split <;> simp_all [retOk_eq_next]

/-- A setter of a variable-shape oscillator always answers a next state. -/
theorem vsoSet_completes (inst : BitVec 8) (k : Nat) (ok : Bool) (f : Vso → Vso) (s : State) :
    ∃ t, vsoSet inst k ok f s = .next t := by
  unfold vsoSet
  split
  · exact ⟨_, rfl⟩
  · exact ⟨_, rfl⟩

/-- A setter of an envelope always answers a next state. -/
theorem envSet_completes (inst : BitVec 8) (k n : Nat) (ok : Bool) (good bad : Env → Env) (s : State) :
    ∃ t, envSet inst k n ok good bad s = .next t := by
  unfold envSet
  split
  · exact ⟨_, rfl⟩
  · split <;> exact ⟨_, rfl⟩

/-- `setFlag` sets its flag and no other. -/
theorem getLsbD_setFlag {n : Nat} (w : BitVec n) (k i : Nat) (hk : k < n) :
    (setFlag w k).getLsbD i = (w.getLsbD i || decide (i = k)) := by
  unfold setFlag
  rw [BitVec.getLsbD_or]
  congr 1
  simp only [BitVec.getLsbD_shiftLeft, BitVec.getLsbD_one]
  by_cases h1 : i = k
  · subst h1
    simp [hk]
    omega
  · by_cases h2 : i < k
    · simp [h1, h2]
    · have h3 : i - k ≠ 0 := by omega
      simp [h1, h3]

/-- An operand in contract sets no mark. -/
@[simp] theorem markUndef_true {n : Nat} (w : BitVec n) (k : Nat) : markUndef w k true = w := rfl

/-- An operand out of contract sets its mark. -/
@[simp] theorem markUndef_false {n : Nat} (w : BitVec n) (k : Nat) : markUndef w k false = setFlag w k := rfl

/-- A setter's operand clears no mark, and sets its own exactly when it is out of contract. -/
theorem getLsbD_markUndef {n : Nat} (w : BitVec n) (k i : Nat) (ok : Bool) (hk : k < n) :
    (markUndef w k ok).getLsbD i = (w.getLsbD i || (!ok && decide (i = k))) := by
  cases ok
  · simp [getLsbD_setFlag w k i hk]
  · simp

/-- What a hit in the cache is: the lowest valid entry whose tag matches (R546). -/
theorem findEntry_eq_some (s : State) (wk : Wave) (dc : Duty) (f : F32) (e : Nat) :
    findEntry s wk dc f = some e ↔
      e < s.cnt ∧ (∃ t, s.tags[e]? = some t ∧ tagMatches wk dc f t = true) ∧
      ∀ k < e, ∀ t, s.tags[k]? = some t → tagMatches wk dc f t = false := by
  unfold findEntry
  rw [List.findIdx?_eq_some_iff_getElem]
  constructor
  · rintro ⟨h, h1, h2⟩
    simp only [List.length_take] at h
    have h3 : e < s.cnt := by omega
    have h4 : e < s.tags.length := by omega
    refine ⟨h3, ⟨s.tags[e], by simp [h4], by simpa using h1⟩, ?_⟩
    intro k hk t ht
    have h5 := h2 k hk
    obtain ⟨h6, h7⟩ := List.getElem?_eq_some_iff.1 ht
    simp only [List.getElem_take, h7] at h5
    simpa using h5
  · rintro ⟨h3, ⟨t, h4, h5⟩, h6⟩
    obtain ⟨h7, h8⟩ := List.getElem?_eq_some_iff.1 h4
    refine ⟨by simp only [List.length_take]; omega, by simpa [h8] using h5, ?_⟩
    intro k hk
    have h9 := h6 k hk s.tags[k] (by simp)
    simp [h9]

/-- What a miss is: no valid entry matches (R546). -/
theorem findEntry_eq_none (s : State) (wk : Wave) (dc : Duty) (f : F32) :
    findEntry s wk dc f = none ↔ ∀ k < s.cnt, ∀ t, s.tags[k]? = some t → tagMatches wk dc f t = false := by
  unfold findEntry
  rw [List.findIdx?_eq_none_iff]
  constructor
  · intro h k hk t ht
    obtain ⟨h6, h7⟩ := List.getElem?_eq_some_iff.1 ht
    refine h t (List.mem_take_iff_getElem.2 ⟨k, by omega, h7⟩)
  · intro h t ht
    obtain ⟨k, hk, h7⟩ := List.mem_take_iff_getElem.1 ht
    refine h k (by omega) t ?_
    rw [← h7]
    simp

/-- A table has one word for each sample of a second (R540). -/
@[simp] theorem tableWords_length (c : Params) (wk : Wave) (f : F32) (dc : Duty) :
    (tableWords c wk f dc).length = c.sampleRate := by
  cases wk <;> simp [tableWords]

/-- The words of a table that is not a sine's: the words of `SMP` (R542). -/
theorem tableWords_getElem? (c : Params) (wk : Wave) (f : F32) (dc : Duty) (i : Nat) (h : wk ≠ .sin)
    (hi : i < c.sampleRate) : (tableWords c wk f dc)[i]? = some (smpWord c wk c.tableFmt dc i f) := by
  cases wk <;> simp_all [tableWords]

/-- The two zeros give the same fast path (R504). -/
theorem sineStep_of_zero (c : Params) (f : F32) (h : mag32 f = 0) : sineStep c f = sineStep c zero32 := by
  simp [sineStep, freqValue, h]

/-- Entry 0 of a sine's table is `OUT(TABLE_FMT, +0.0)`, whatever the frequency (R543). -/
@[simp] theorem sineEntry_zero (c : Params) (step : F32) : sineEntry c step 0 = outStage c.tableFmt zero32 := by
  simp [sineEntry, sineAngle, sin32]

/-- What `OOB` gives does not depend on the bits above the width of the source format (R87, R111). -/
theorem oob_of_canonical_eq (sf df : Fmt) (v w : Word) (h : canonical sf v = canonical sf w) : oob sf df v = oob sf df w := by
  simp [oob, h]

/-- The words of a sine's table: the fast path (R543). -/
theorem tableWords_sin_getElem? (c : Params) (f : F32) (dc : Duty) (i : Nat) (hi : i < c.sampleRate) :
    (tableWords c .sin f dc)[i]? = some (sineEntry c (sineStep c f) i) := by
  simp [tableWords, hi]

end Sys2Proof.Machine
end

