-- ==== Sys2Proof/Laws/Exec.lean ====
section
/-! SUPPORT. The 196 conversions and the five sample commands as one command each, and what a step is. -/

namespace Sys2Proof.Machine

/-- Every `CVT` command is the shared command at its pair of formats (R116). -/
theorem exec_cvtInstr (sf df : Fmt) (s : State) : exec (cvtInstr sf df) s = convert sf df s := by
  cases sf <;> cases df <;> rfl

/-- The word of every `CVT` command (R116). -/
theorem encode_cvtInstr (sf df : Fmt) : encode (cvtInstr sf df) = encodeCvt sf df := by
  cases sf <;> cases df <;> rfl

/-- Every `SMP` command is the shared command at its kind (R508 to R512). -/
theorem exec_smpInstr (wk : Wave) (df : Fmt) (dc : Duty) (s : State) :
    exec (smpInstr wk df dc) s = sampleAt wk df dc s := by
  cases wk <;> rfl

/-- The word of every `SMP` command (R508 to R512). -/
theorem encode_smpInstr (wk : Wave) (df : Fmt) (dc : Duty) : encode (smpInstr wk df dc) = encodeSmp wk df dc := by
  cases wk <;> rfl

/-- What a step can do: the reset event, an illegal word, or the decoded instruction. -/
theorem step_cases (s : State) :
    (s.rst = true ∧ step s = .next (hostReset s)) ∨
    (s.rst = false ∧ (∃ e, decode s.cmd = .error e) ∧ step s = raiseIllegal s) ∨
    (s.rst = false ∧ ∃ i, decode s.cmd = .ok i ∧ step s = exec i s) := by
  unfold step fetchCommand
  cases hr : s.rst
  · cases hd : decode s.cmd
    · exact .inr (.inl ⟨rfl, ⟨_, rfl⟩, rfl⟩)
    · exact .inr (.inr ⟨rfl, _, rfl, rfl⟩)
  · exact .inl ⟨rfl, rfl⟩

/-- What `OSC.CFG` can do (R514). -/
theorem execOscCfg_next (wk : Wave) (dc : Duty) (i : BitVec 8) (s t : State) (h : execOscCfg wk dc i s = .next t) :
    t = finish s .illegal 0#64 ∨
    (wk.isSourceKind = true ∧ (∃ o, getOsc s i = some o) ∧
      t = finish (putOsc s i (oscConfigured wk dc (opbF32 s))) .ok 0#64) := by
  unfold execOscCfg at h
  split at h
  · split at h
    · exact .inl ((raiseIllegal_eq_next ..).1 h)
    · exact .inr ⟨‹_›, ⟨_, ‹_›⟩, (retOk_eq_next ..).1 h⟩
  · exact .inl ((raiseIllegal_eq_next ..).1 h)

/-- What `OSC.NEXT` can do (R515). -/
theorem execOscNext_next (df : Fmt) (i : BitVec 8) (s t : State) (h : execOscNext df i s = .next t) :
    t = finish s .illegal 0#64 ∨
    ∃ o, getOsc s i = some o ∧ o.cfg = true ∧ freqInContract o.freq = true ∧
      t = finish (putOsc s i (oscAdvanced s.cfg o)) .ok (outStage df (wave32 o.kind o.phase o.duty)) := by
  unfold execOscNext at h
  split at h
  · exact .inl ((raiseIllegal_eq_next ..).1 h)
  · split at h
    · split at h
      · exact .inr ⟨_, ‹_›, ‹_›, ‹_›, (retOk_eq_next ..).1 h⟩
      · cases h
    · exact .inl ((raiseIllegal_eq_next ..).1 h)

/-- What `OSC.AT` can do (R516). -/
theorem execOscAt_next (df : Fmt) (i : BitVec 8) (s t : State) (h : execOscAt df i s = .next t) :
    t = finish s .illegal 0#64 ∨
    ∃ o, getOsc s i = some o ∧ o.cfg = true ∧ phaseInContract s.cfg (opaIndex s) o.freq = true ∧
      t = finish s .ok (smpWord s.cfg o.kind df o.duty (opaIndex s) o.freq) := by
  unfold execOscAt at h
  split at h
  · exact .inl ((raiseIllegal_eq_next ..).1 h)
  · split at h
    · split at h
      · exact .inr ⟨_, ‹_›, ‹_›, ‹_›, (retOk_eq_next ..).1 h⟩
      · cases h
    · exact .inl ((raiseIllegal_eq_next ..).1 h)

/-- What `TBL.BUILD` can do (R541). -/
theorem execTblBuild_next (wk : Wave) (dc : Duty) (j : BitVec 8) (s t : State) (h : execTblBuild wk dc j s = .next t) :
    t = finish s .illegal 0#64 ∨
    (∃ len, s.cfg.privLen[j.toNat]? = some len ∧ len ≠ s.cfg.sampleRate ∧
      t = finish s .incorrectSize (sizePayload s.cfg.sampleRate len)) ∨
    (wk.isSourceKind = true ∧ s.cfg.privLen[j.toNat]? = some s.cfg.sampleRate ∧ freqInContract (opbF32 s) = true ∧
      t = finish (markPrivOk (fillTable s (privHandle j.toNat) (tableWords s.cfg wk (opbF32 s) dc)) j.toNat) .ok
        ((privHandle j.toNat).setWidth 64)) := by
  unfold execTblBuild at h
  split at h
  · split at h
    · exact .inl ((raiseIllegal_eq_next ..).1 h)
    · split at h
      · rename_i hlen
        subst hlen
        split at h
        · exact .inr (.inr ⟨‹_›, ‹_›, ‹_›, (retOk_eq_next ..).1 h⟩)
        · cases h
      · exact .inr (.inl ⟨_, ‹_›, ‹_›, (raise_eq_next ..).1 h⟩)
  · exact .inl ((raiseIllegal_eq_next ..).1 h)

/-- What `TBL.ALLOC` can do (R546). -/
theorem execTblAlloc_next (wk : Wave) (dc : Duty) (s t : State) (h : execTblAlloc wk dc s = .next t) :
    t = finish s .illegal 0#64 ∨
    (wk.isSourceKind = true ∧ freqInContract (opbF32 s) = true ∧
      ((∃ e, findEntry s wk dc (opbF32 s) = some e ∧ t = finish s .ok ((cacheHandle e).setWidth 64)) ∨
       (findEntry s wk dc (opbF32 s) = none ∧ s.cnt = s.cfg.cacheCap ∧ t = finish s .tableFull 0#64) ∨
       (findEntry s wk dc (opbF32 s) = none ∧ s.cnt ≠ s.cfg.cacheCap ∧
        t = finish (pushTag (fillTable s (cacheHandle s.cnt) (tableWords s.cfg wk (opbF32 s) dc))
          { kind := wk, duty := dc, freq := opbF32 s }) .ok ((cacheHandle s.cnt).setWidth 64)))) := by
  unfold execTblAlloc at h
  split at h
  · split at h
    · refine .inr ⟨‹_›, ‹_›, ?_⟩
      split at h
      · exact .inl ⟨_, ‹_›, (retOk_eq_next ..).1 h⟩
      · split at h
        · exact .inr (.inl ⟨‹_›, ‹_›, (raise_eq_next ..).1 h⟩)
        · exact .inr (.inr ⟨‹_›, ‹_›, (retOk_eq_next ..).1 h⟩)
    · cases h
  · exact .inl ((raiseIllegal_eq_next ..).1 h)

/-- What `LUT.BIND` can do (R549). -/
theorem execLutBind_next (i : BitVec 8) (s t : State) (h : execLutBind i s = .next t) :
    t = finish s .illegal 0#64 ∨
    ((∃ l, getLut s i = some l) ∧ handleValid s (opaHandle s) = true ∧
      t = finish (putLut s i { bound := true, tbl := opaHandle s, idx := 0#32 }) .ok 0#64) := by
  unfold execLutBind at h
  split at h
  · exact .inl ((raiseIllegal_eq_next ..).1 h)
  · split at h
    · exact .inr ⟨⟨_, ‹_›⟩, ‹_›, (retOk_eq_next ..).1 h⟩
    · exact .inl ((raiseIllegal_eq_next ..).1 h)

/-- What `LUT.NEXT` can do (R551). -/
theorem execLutNext_next (i : BitVec 8) (s t : State) (h : execLutNext i s = .next t) :
    t = finish s .illegal 0#64 ∨
    ∃ l w, getLut s i = some l ∧ l.bound = true ∧ memRead s.mem l.tbl l.idx = some w ∧
      t = finish (putLut s i { l with idx := BitVec.ofNat 32 ((l.idx.toNat + 1) % s.cfg.sampleRate) }) .ok w := by
  unfold execLutNext at h
  split at h
  · exact .inl ((raiseIllegal_eq_next ..).1 h)
  · split at h
    · split at h
      · cases h
      · exact .inr ⟨_, _, ‹_›, ‹_›, ‹_›, (retOk_eq_next ..).1 h⟩
    · exact .inl ((raiseIllegal_eq_next ..).1 h)

/-- What `LUT.AT` can do (R552). -/
theorem execLutAt_next (i : BitVec 8) (s t : State) (h : execLutAt i s = .next t) :
    t = finish s .illegal 0#64 ∨
    ∃ l w, getLut s i = some l ∧ l.bound = true ∧
      memRead s.mem l.tbl (BitVec.ofNat 32 (opaIndex s % s.cfg.sampleRate)) = some w ∧ t = finish s .ok w := by
  unfold execLutAt at h
  split at h
  · exact .inl ((raiseIllegal_eq_next ..).1 h)
  · split at h
    · split at h
      · cases h
      · exact .inr ⟨_, _, ‹_›, ‹_›, ‹_›, (retOk_eq_next ..).1 h⟩
    · exact .inl ((raiseIllegal_eq_next ..).1 h)

/-- What `VSO.TICK` can do (R580). -/
theorem execVsoTick_next (i : BitVec 8) (s t : State) (h : execVsoTick i s = .next t) :
    t = finish s .illegal 0#64 ∨
    ∃ v, getVso s i = some v ∧ vsoWritten v = true ∧ v.undef = 0#5 ∧ vsoInContract v = true ∧
      t = finish (putVso s i (vsoTick v).1) .ok (encF32 (vsoTick v).2) := by
  unfold execVsoTick at h
  split at h
  · exact .inl ((raiseIllegal_eq_next ..).1 h)
  · split at h
    · split at h
      · rename_i hc
        exact .inr ⟨_, ‹_›, ‹_›, hc.1, hc.2, (retOk_eq_next ..).1 h⟩
      · cases h
    · exact .inl ((raiseIllegal_eq_next ..).1 h)

/-- What `ENV.TICK` can do (R610). -/
theorem execEnvTick_next (g : Bool) (i : BitVec 8) (s t : State) (h : execEnvTick g i s = .next t) :
    t = finish s .illegal 0#64 ∨
    ∃ e, getEnv s i = some e ∧ envWritten e = true ∧ e.undef = 0#4 ∧
      t = finish (putEnv s i (envTicked g e)) .ok (encF32 (envOutput g e)) := by
  unfold execEnvTick at h
  split at h
  · exact .inl ((raiseIllegal_eq_next ..).1 h)
  · split at h
    · split at h
      · exact .inr ⟨_, ‹_›, ‹_›, ‹_›, (retOk_eq_next ..).1 h⟩
      · cases h
    · exact .inl ((raiseIllegal_eq_next ..).1 h)

/-- What `ENV.STAT` can do (R612). -/
theorem execEnvStat_next (i : BitVec 8) (s t : State) (h : execEnvStat i s = .next t) :
    t = finish s .illegal 0#64 ∨ ∃ e, getEnv s i = some e ∧ t = finish s .ok (e.state.code.setWidth 64) := by
  unfold execEnvStat at h
  split at h
  · exact .inl ((raiseIllegal_eq_next ..).1 h)
  · exact .inr ⟨_, ‹_›, (retOk_eq_next ..).1 h⟩

end Sys2Proof.Machine
end

