-- ==== Sys2Proof/Certificates/Slice0/Obligations.lean ====
section
/-! DEFINITION. The statements for the provers. A state `s` is any state, also one no run reaches; where a statement needs
the invariant of the block, `Wired`, `PhasesOk` or `EnvelopesOk` of Sys2Proof/Safety.lean is a premise. -/

open Sys2Proof Sys2Proof.Machine

/-! ## The encoding -/

/-- 30_encoding.md R80 to R86: decoding the word of a well-formed instruction gives the instruction back, for every
instruction and every value of every field. -/
def Obligations.DecodeInvertsEncode : Prop :=
  ∀ i : Instr, i.wellFormed = true → decode (encode i) = .ok i

/-- 30_encoding.md R86, R88, R91: a word the decoder accepts is the word of the instruction it gives, so every legal word
has one meaning and no bit of it is dropped. -/
def Obligations.EncodeInvertsDecode : Prop :=
  ∀ (c : BitVec 32) (i : Instr), decode c = .ok i → encode i = c ∧ i.wellFormed = true

/-- Words written out by the spec's worked examples (95_test_vectors.md; R508, R514, R541, R549, R571, R610) decode to the
commands they stand for. -/
def Obligations.SpecWordsDecode : Prop :=
  decode 0x01C00000#32 = .ok .cvtI8F32 ∧
  decode 0x10C00C00#32 = .ok (.smpSin .f32 .d500) ∧
  decode 0x11001C00#32 = .ok (.oscCfg .saw .d500 0#8) ∧
  decode 0x18001C00#32 = .ok (.tblBuild .saw .d500 0#8) ∧
  decode 0x1A000001#32 = .ok (.lutBind 1#8) ∧
  decode 0x24000200#32 = .ok (.vsoSetSync true 0#8) ∧
  decode 0x34000200#32 = .ok (.envTick true 0#8)

/-- 30_encoding.md R88, checks (1) to (4), in their order, on any word; and what an illegal word does as a command. -/
def Obligations.DecoderRefusesInOrder : Prop :=
  ∀ c : BitVec 32,
    (usedFields (opcField c) = none → decode c = .error .undefinedOpcode) ∧
    (∀ u, usedFields (opcField c) = some u →
      (unusedZero u c = false → decode c = .error .unusedField) ∧
      (unusedZero u c = true → ReservedFormat u c → decode c = .error .reservedFormat) ∧
      (unusedZero u c = true → ¬ReservedFormat u c → ReservedKind u c → decode c = .error .reservedKind) ∧
      (unusedZero u c = true → ¬ReservedFormat u c → ¬ReservedKind u c → ∃ i, decode c = .ok i)) ∧
    ∀ (s : State) (e : DecodeError), s.rst = false → s.cmd = c → decode c = .error e →
      step s = .next { s with st := .illegal, res := 0#64 }

/-! ## One step -/

/-- 00_scope.md R16, 10_state.md R23: while reset is not asserted, a step runs the instruction the command word decodes to,
and nothing else. -/
def Obligations.StepRunsDecoded : Prop :=
  ∀ (s : State) (i : Instr), s.rst = false → decode s.cmd = .ok i → step s = exec i s

/-- 70_reset_and_hazards.md R750, 10_state.md R35, 20_memory.md R62: the reset event. That it is a step, taken when the host's
input `rst` is asserted, is the model's choice (log 3). -/
def Obligations.ResetEvent : Prop :=
  ∀ s : State, s.rst = true →
    ∃ t, step s = .next t ∧ t.res = 0#64 ∧ t.st = .ok ∧
      t.osc.length = s.cfg.nOsc ∧ (∀ o ∈ t.osc, o.cfg = false ∧ o.phase = 0#32) ∧
      t.lut.length = s.cfg.nLut ∧ (∀ l ∈ t.lut, l.bound = false ∧ l.idx = 0#32) ∧
      t.vso.length = s.cfg.nVso ∧
      (∀ v ∈ t.vso, v.mph = 0#32 ∧ v.sph = 0#32 ∧ v.next = 0#32 ∧ v.high = false ∧ v.prevPw = 0x3F000000#32 ∧
        v.wr = 0#5) ∧
      t.env.length = s.cfg.nEnv ∧
      (∀ e ∈ t.env, e.state = .init ∧ e.x = 0#32 ∧ e.gatePrev = false ∧ e.wr = 0#4) ∧
      t.cnt = 0 ∧ (∀ b ∈ t.privOk, b = false) ∧ (∀ h, handleValid t h = false) ∧
      t.cfg = s.cfg

/-! ## The conversion engine -/

/-- 40_convert.md R116: each of the 196 `CVT` commands (`cvtInstr` names the command of a pair of formats) completes in every
state with the word `cvtResult`, which is canonical and is that of the four classes of conversion for an operand in contract,
and changes `RES` and `ST` only. What the operand holds above the width of the source format is ignored, in contract and out
of it (R87, R111). -/
def Obligations.CvtCompletes : Prop :=
  ∀ (sf df : Fmt) (s : State),
    exec (cvtInstr sf df) s = .next { s with st := .ok, res := cvtResult sf df s.opa } ∧
    (sf.isInt = true ∨ inContract sf s.opa = true → cvtResult sf df s.opa = cvtWord sf df s.opa) ∧
    canonical df (cvtResult sf df s.opa) = cvtResult sf df s.opa ∧
    ∀ w : Word, w.toNat % 2 ^ sf.width = s.opa.toNat % 2 ^ sf.width → cvtResult sf df w = cvtResult sf df s.opa

/-- 40_convert.md R113. -/
def Obligations.SignedDomain : Prop :=
  ∀ (f : Fmt) (w : Word), f.isInt = true →
    (f.isSigned = true → signedVal f w = (w.setWidth f.width).toInt) ∧
    (f.isSigned = false → signedVal f w = ((w.setWidth f.width).toNat : Int) - 2 ^ (f.width - 1) ∧
      signedVal f w = ((w.setWidth f.width) ^^^ BitVec.ofNat f.width (2 ^ (f.width - 1))).toInt) ∧
    -2 ^ (f.width - 1) ≤ signedVal f w ∧ signedVal f w ≤ 2 ^ (f.width - 1) - 1

/-- 40_convert.md R117: the value is moved by a shift that drops low bits toward minus infinity, and stays in range. -/
def Obligations.CvtIntegerToInteger : Prop :=
  ∀ (sf df : Fmt) (s : State), sf.isInt = true → df.isInt = true →
    ∃ v : Int,
      (sf.width ≤ df.width → v = signedVal sf s.opa * 2 ^ (df.width - sf.width)) ∧
      (df.width < sf.width →
        v * 2 ^ (sf.width - df.width) ≤ signedVal sf s.opa ∧
        signedVal sf s.opa < (v + 1) * 2 ^ (sf.width - df.width)) ∧
      -2 ^ (df.width - 1) ≤ v ∧ v < 2 ^ (df.width - 1) ∧
      exec (cvtInstr sf df) s = .next { s with
        st := .ok, res := BitVec.ofInt 64 (if df.isSigned then v else v + 2 ^ (df.width - 1)) }

/-- 40_convert.md R126: the bit-pattern view of an integer conversion. -/
def Obligations.CvtIntegerBits : Prop :=
  ∀ (sf df : Fmt) (s : State), sf.isInt = true → df.isInt = true →
    ∃ r : Word, exec (cvtInstr sf df) s = .next { s with st := .ok, res := r } ∧ canonical df r = r ∧
      ∀ p : Nat,
        p = (if sf.isSigned = df.isSigned then s.opa.toNat % 2 ^ sf.width
          else (s.opa.toNat % 2 ^ sf.width) ^^^ 2 ^ (sf.width - 1)) →
        r.toNat % 2 ^ df.width =
          if sf.width ≤ df.width then p * 2 ^ (df.width - sf.width) else p / 2 ^ (sf.width - df.width)

/-- 40_convert.md R118: one rounding of the exact quotient to nearest, ties to even; a zero is `+0.0`. -/
def Obligations.CvtIntegerToFloat : Prop :=
  ∀ (sf : Fmt) (s : State), sf.isInt = true →
    (∃ y : F32, IsRN32 (signedVal sf s.opa) (2 ^ (sf.width - 1)) y ∧ (signedVal sf s.opa = 0 → y = 0#32) ∧
      le32 negOne32 y = true ∧ le32 y one32 = true ∧
      exec (cvtInstr sf .f32) s = .next { s with st := .ok, res := y.setWidth 64 }) ∧
    ∃ y : F64, IsRN64 (signedVal sf s.opa) (2 ^ (sf.width - 1)) y ∧ (signedVal sf s.opa = 0 → y = 0#64) ∧
      le64 0xBFF0000000000000#64 y = true ∧ le64 y 0x3FF0000000000000#64 = true ∧
      exec (cvtInstr sf .f64) s = .next { s with st := .ok, res := y }

/-- 40_convert.md R127: where an integer to float conversion is exact, and where it gives exactly +1.0. -/
def Obligations.CvtIntegerToFloatExact : Prop :=
  ∀ (sf : Fmt) (s : State), sf.isInt = true →
    (∃ y : F32, exec (cvtInstr sf .f32) s = .next { s with st := .ok, res := y.setWidth 64 } ∧
      (int32 y * 2 ^ (sf.width - 1) = signedVal sf s.opa * 2 ^ 149 ↔
        ∃ (k : Int) (e : Nat), signedVal sf s.opa = k * 2 ^ e ∧ k.natAbs < 2 ^ 24) ∧
      (sf.width ≤ 24 → int32 y * 2 ^ (sf.width - 1) = signedVal sf s.opa * 2 ^ 149) ∧
      (y = one32 ↔ 32 ≤ sf.width ∧ (2 ^ (sf.width - 1) - 2 ^ (sf.width - 26) : Int) ≤ signedVal sf s.opa)) ∧
    ∃ y : F64, exec (cvtInstr sf .f64) s = .next { s with st := .ok, res := y } ∧
      (int64 y * 2 ^ (sf.width - 1) = signedVal sf s.opa * 2 ^ 1074 ↔
        ∃ (k : Int) (e : Nat), signedVal sf s.opa = k * 2 ^ e ∧ k.natAbs < 2 ^ 53) ∧
      (sf.width ≤ 48 → int64 y * 2 ^ (sf.width - 1) = signedVal sf s.opa * 2 ^ 1074) ∧
      (y = 0x3FF0000000000000#64 ↔ sf.width = 64 ∧ (2 ^ 63 - 2 ^ 9 : Int) ≤ signedVal sf s.opa)

/-- 40_convert.md R119: the exact product with the scale, truncated toward zero, stays in range; the bias is added after. -/
def Obligations.CvtFloatToInteger : Prop :=
  ∀ (df : Fmt) (s : State), df.isInt = true →
    (inContract .f32 s.opa = true →
      ∃ v : Int, v = Int.tdiv (int32 (s.opa.setWidth 32) * 2 ^ (df.width - 1)) (2 ^ 149) ∧
        -2 ^ (df.width - 1) ≤ v ∧ v < 2 ^ (df.width - 1) ∧
        exec (cvtInstr .f32 df) s = .next { s with
          st := .ok, res := BitVec.ofInt 64 (if df.isSigned then v else v + 2 ^ (df.width - 1)) }) ∧
    (inContract .f64 s.opa = true →
      ∃ v : Int, v = Int.tdiv (int64 s.opa * 2 ^ (df.width - 1)) (2 ^ 1074) ∧
        -2 ^ (df.width - 1) ≤ v ∧ v < 2 ^ (df.width - 1) ∧
        exec (cvtInstr .f64 df) s = .next { s with
          st := .ok, res := BitVec.ofInt 64 (if df.isSigned then v else v + 2 ^ (df.width - 1)) })

/-- 40_convert.md R120: widening keeps the value and the sign of a zero; narrowing rounds once, ties to even, and keeps the
sign. -/
def Obligations.CvtFloatToFloat : Prop :=
  ∀ s : State,
    (inContract .f32 s.opa = true →
      ∃ y : F64, isFin64 y = true ∧ int64 y * 2 ^ 149 = int32 (s.opa.setWidth 32) * 2 ^ 1074 ∧
        sign64 y = sign32 (s.opa.setWidth 32) ∧
        exec .cvtF32F64 s = .next { s with st := .ok, res := y }) ∧
    (inContract .f64 s.opa = true →
      ∃ y : F32, IsRN32 (int64 s.opa) (2 ^ 1074) y ∧ sign32 y = sign64 s.opa ∧
        exec .cvtF64F32 s = .next { s with st := .ok, res := y.setWidth 64 })

/-- 40_convert.md R121: a conversion to the same format is the identity on the value, with the canonical extension. -/
def Obligations.CvtSameFormat : Prop :=
  ∀ (f : Fmt) (s : State), f.isInt = true ∨ inContract f s.opa = true →
    exec (cvtInstr f f) s = .next { s with st := .ok, res := canonical f s.opa } ∧
    (f.isInt = true → sampleVal f (canonical f s.opa) = sampleVal f s.opa)

/-- 40_convert.md R122: an out-of-contract operand is not trapped, changes `RES` and `ST` only, and gives a canonical word
that depends on the two formats and the operand alone, of which the bits above the width of the format are ignored (R111);
nothing is said of which word. -/
def Obligations.CvtOutOfContract : Prop :=
  ∀ (sf df : Fmt) (w : Word), sf.isFloat = true → inContract sf w = false →
    ∃ r : Word, canonical df r = r ∧
      ∀ s : State, s.opa.toNat % 2 ^ sf.width = w.toNat % 2 ^ sf.width →
        exec (cvtInstr sf df) s = .next { s with st := .ok, res := r }

/-- 40_convert.md R123: the pairs of formats for which there and back is the identity are exactly the listed ones.
`CvtCompletes` says that `cvtResult` is what the command returns. -/
def Obligations.CvtRoundTrip : Prop :=
  ∀ a b : Fmt,
    lossless a b = true ↔
      ∀ w : Word, inContract a w = true → cvtResult b a (cvtResult a b w) = canonical a w

/-! ## Binary32 arithmetic -/

/-- 00_scope.md R9, 40_convert.md R129: each operation on finite values is the exact result rounded once, and the special
cases are those of IEEE 754. The case `inf / inf` and the signs of products and quotients are the model's reading of IEEE
754 (PRESUMED, log 16): R9 does not list them. -/
def Obligations.FloatArithmeticRounds : Prop :=
  (∀ a b : F32, isFin32 a = true → isFin32 b = true →
    IsRN32 (int32 a + int32 b) (2 ^ 149) (add32 a b) ∧
    (int32 a + int32 b = 0 → add32 a b = if sign32 a && sign32 b then 0x80000000#32 else 0#32) ∧
    IsRN32 (int32 a - int32 b) (2 ^ 149) (sub32 a b) ∧
    IsRN32 (int32 a * int32 b) (2 ^ 298) (mul32 a b) ∧ sign32 (mul32 a b) = (sign32 a != sign32 b) ∧
    (mag32 b ≠ 0 →
      IsRN32 (if sign32 b then -int32 a else int32 a) (units32 b) (div32 a b) ∧
      sign32 (div32 a b) = (sign32 a != sign32 b)) ∧
    (mag32 b = 0 → mag32 a ≠ 0 →
      isInf32 (div32 a b) = true ∧ sign32 (div32 a b) = (sign32 a != sign32 b)) ∧
    (mag32 b = 0 → mag32 a = 0 → isNaN32 (div32 a b) = true)) ∧
  (∀ a b : F32, isNaN32 a = true ∨ isNaN32 b = true →
    isNaN32 (add32 a b) = true ∧ isNaN32 (mul32 a b) = true ∧ isNaN32 (div32 a b) = true ∧
    lt32 a b = false ∧ le32 a b = false) ∧
  ∀ a b : F32, isInf32 a = true →
    (isInf32 b = true → sign32 a ≠ sign32 b → isNaN32 (add32 a b) = true) ∧
    (mag32 b = 0 → isNaN32 (mul32 a b) = true ∧ isNaN32 (mul32 b a) = true) ∧
    (isInf32 b = true → isNaN32 (div32 a b) = true)

/-- 46_waveform.md R502. -/
def Obligations.FractionIsExact : Prop :=
  twoPi32 = 0x40C90FDB#32 ∧
  ∀ p : F32, isFin32 p = true → le32 zero32 p = true →
    int32 (frac32 p) = int32 p % 2 ^ 149 ∧ (int32 p % 2 ^ 149 = 0 → frac32 p = 0#32) ∧
    InUnit (frac32 p) ∧ (le32 0x4B000000#32 p = true → frac32 p = 0#32)

/-! ## Waveforms and the runtime oscillator -/

/-- 46_waveform.md R505, R507, R503: the range of each waveform function on a phase in [0, 1). -/
def Obligations.WaveRanges : Prop :=
  ∀ (ph : F32) (dc : Duty), InUnit ph →
    (le32 negOne32 (waveSaw ph) = true ∧ le32 (waveSaw ph) 0x3F7FFFFE#32 = true) ∧
    (le32 negOne32 (waveTri ph) = true ∧ le32 (waveTri ph) one32 = true ∧ (waveTri ph = one32 ↔ ph = half32)) ∧
    (waveSqr ph dc = one32 ∧ lt32 ph dc.value = true ∨ waveSqr ph dc = negOne32 ∧ lt32 ph dc.value = false) ∧
    (le32 negOne32 (waveSin ph) = true ∧ le32 (waveSin ph) one32 = true) ∧
    (le32 negOne32 (waveCos ph) = true ∧ le32 (waveCos ph) one32 = true)

/-- 46_waveform.md R501, R505 to R512: the five `SMP` commands (`smpInstr` names the command of a kind) complete on every
frequency in contract (R504), with the sample of the phase of the index, and change `RES` and `ST` only. -/
def Obligations.SmpResult : Prop :=
  ∀ (wk : Wave) (df : Fmt) (dc : Duty) (s : State) (f p ph y : F32),
    f = s.opb.setWidth 32 → isFin32 f = true → le32 zero32 f = true →
    p = mul32 (div32 (rn32 false s.opa.toNat 1) (rn32 false s.cfg.sampleRate 1)) f → isFin32 p = true →
    ph = frac32 p →
    y = (match wk with
      | .sin => sin32 (mul32 ph 0x40C90FDB#32)
      | .saw => sub32 (mul32 0x40000000#32 ph) 0x3F800000#32
      | .tri => sub32 0x3F800000#32 (mul32 0x40800000#32 (abs32 (sub32 ph 0x3F000000#32)))
      | .sqr => if lt32 ph dc.value then 0x3F800000#32 else 0xBF800000#32
      | .cos => cos32 (mul32 ph 0x40C90FDB#32)) →
    ∃ w : Word, exec (smpInstr wk df dc) s = .next { s with st := .ok, res := w } ∧
      w = if df = .f32 then y.setWidth 64 else cvtResult .f32 df (y.setWidth 64)

/-- 46_waveform.md R501, R504: index 0, and frequency 0 at every index, give the phase `+0.0`; every phase of an index in
contract is in [0, 1). -/
def Obligations.SmpPhase : Prop :=
  ∀ (c : Params) (index : Nat) (f : F32), c.wf →
    (freqInContract f = true → phase32 c 0 f = 0#32) ∧
    (index < 2 ^ 64 → mag32 f = 0 → phaseInContract c index f = true ∧ phase32 c index f = 0#32) ∧
    (phaseInContract c index f = true → le32 zero32 (cycles32 c index f) = true ∧ InUnit (phase32 c index f))

/-- 46_waveform.md R514: `OSC.CFG` completes on every instance there is and writes its five registers. That it does so for a
frequency out of contract too is the model's choice (log 10): 93_implementation_defined.md U4 defines no next state there. -/
def Obligations.OscConfigure : Prop :=
  ∀ (wk : Wave) (dc : Duty) (i : BitVec 8) (s : State),
    wk.isSourceKind = true → i.toNat < s.cfg.nOsc → i.toNat < s.osc.length →
    exec (.oscCfg wk dc i) s = .next { s with
      st := .ok, res := 0#64,
      osc := s.osc.set i.toNat
        { cfg := true, kind := wk, duty := dc, freq := s.opb.setWidth 32, phase := 0#32 } }

/-- 46_waveform.md R515: `OSC.NEXT` completes on a configured instance whose frequency is in contract; it returns the sample
of the phase before the advance and writes the phase only. -/
def Obligations.OscNextSample : Prop :=
  ∀ (df : Fmt) (i : BitVec 8) (s : State) (o : Osc) (y : F32),
    i.toNat < s.cfg.nOsc → s.osc[i.toNat]? = some o → o.cfg = true →
    isFin32 o.freq = true → le32 zero32 o.freq = true → y = wave32 o.kind o.phase o.duty →
    exec (.oscNext df i) s = .next { s with
      st := .ok,
      res := if df = .f32 then y.setWidth 64 else cvtResult .f32 df (y.setWidth 64),
      osc := s.osc.set i.toNat
        { o with phase := frac32 (add32 o.phase (div32 o.freq (rn32 false s.cfg.sampleRate 1))) } }

/-- 46_waveform.md R516, R517 (a): `OSC.AT` completes in contract and returns exactly the word of the `SMP` command of the
configured kind, duty and frequency; both write `RES` and `ST` only. -/
def Obligations.OscAtIsSmp : Prop :=
  ∀ (df : Fmt) (i : BitVec 8) (s : State) (o : Osc),
    i.toNat < s.cfg.nOsc → s.osc[i.toNat]? = some o → o.cfg = true →
    phaseInContract s.cfg s.opa.toNat o.freq = true →
    ∃ w : Word, exec (.oscAt df i) s = .next { s with st := .ok, res := w } ∧
      exec (smpInstr o.kind df o.duty) { s with opb := o.freq.setWidth 64 } =
        .next { s with opb := o.freq.setWidth 64, st := .ok, res := w }

/-! ## Tables -/

/-- 47_table_lut.md R541 to R543, 20_memory.md R63: `TBL.BUILD` into a buffer of the right length completes, fills every entry
of the buffer (the sine by its fast path, with `-0.0` as `+0.0` by 46_waveform.md R504, and entry 0 the word of
`+0.0`), sets its flag, returns its handle, and leaves every entry of every other table and every other register alone. That
the frequency is checked once, after the length, is the model's reading (log 14). -/
def Obligations.TblBuildFills : Prop :=
  ∀ (wk : Wave) (dc : Duty) (j : BitVec 8) (s : State) (f g : F32),
    SizesOk s → wk.isSourceKind = true → s.cfg.privLen[j.toNat]? = some s.cfg.sampleRate →
    f = s.opb.setWidth 32 → freqInContract f = true → g = (if mag32 f = 0 then 0#32 else f) →
    ∃ t, exec (.tblBuild wk dc j) s = .next t ∧
      t = { s with st := .ok, res := t.res, privOk := t.privOk, mem := t.mem } ∧
      t.res = 0x80000000#64 ||| j.setWidth 64 ∧
      t.privOk[j.toNat]? = some true ∧ (∀ k ≠ j.toNat, t.privOk[k]? = s.privOk[k]?) ∧
      (∀ n < s.cfg.sampleRate, memRead t.mem (privHandle j.toNat) (BitVec.ofNat 32 n) = some (
        if wk = .sin then
          (if n = 0 then outStage s.cfg.tableFmt 0#32
          else outStage s.cfg.tableFmt (sin32 (mul32 (rn32 false n 1)
            (div32 (mul32 0x40C90FDB#32 g) (rn32 false s.cfg.sampleRate 1)))))
        else outStage s.cfg.tableFmt (wave32 wk (phase32 s.cfg n f) dc))) ∧
      ∀ (h : Handle) (n : BitVec 32), h ≠ privHandle j.toNat → memRead t.mem h n = memRead s.mem h n

/-- 60_exceptions.md R704: when `IncorrectSize` is raised, and with what payload. -/
def Obligations.IncorrectSizeExactly : Prop :=
  (∀ (wk : Wave) (dc : Duty) (j : BitVec 8) (s : State) (len : Nat),
    wk.isSourceKind = true → s.cfg.privLen[j.toNat]? = some len → len ≠ s.cfg.sampleRate →
    exec (.tblBuild wk dc j) s = .next { s with
      st := .incorrectSize, res := BitVec.ofNat 32 s.cfg.sampleRate ++ BitVec.ofNat 32 len }) ∧
  ∀ (i : Instr) (s t : State), exec i s = .next t → t.st = .incorrectSize →
    ∃ wk dc j len, i = .tblBuild wk dc j ∧ s.cfg.privLen[j.toNat]? = some len ∧ len ≠ s.cfg.sampleRate

/-- 60_exceptions.md R705: `TableFull` is raised exactly when no valid entry matches and the cache is full. -/
def Obligations.TableFullExactly : Prop :=
  ∀ (i : Instr) (s t : State), exec i s = .next t →
    (t.st = .tableFull ↔
      ∃ wk dc, i = .tblAlloc wk dc ∧ wk.isSourceKind = true ∧ s.cnt = s.cfg.cacheCap ∧
        ∀ e < s.cnt, ∀ g, s.tags[e]? = some g →
          ¬(g.kind = wk ∧ g.duty = dc ∧ lt32 (abs32 (sub32 g.freq (s.opb.setWidth 32))) 0x38D1B717#32 = true))

/-- 47_table_lut.md R546: `TBL.ALLOC` completes on a frequency in contract. On a hit it returns the lowest matching valid entry
and writes nothing else; on a miss with room it builds the table of entry `CNT`, inserts its tag, and leaves every other
table and register alone; on a miss in a full cache it is `TableFull`. -/
def Obligations.TblAllocResult : Prop :=
  ∀ (wk : Wave) (dc : Duty) (s : State) (f g : F32),
    SizesOk s → s.cnt ≤ s.cfg.cacheCap → wk.isSourceKind = true →
    f = s.opb.setWidth 32 → freqInContract f = true → g = (if mag32 f = 0 then 0#32 else f) →
    (∀ e < s.cnt, ∀ g, s.tags[e]? = some g → tagMatches wk dc f g = true →
      (∀ k < e, ∀ g', s.tags[k]? = some g' → tagMatches wk dc f g' = false) →
      exec (.tblAlloc wk dc) s = .next { s with st := .ok, res := BitVec.ofNat 64 e }) ∧
    ((∀ e < s.cnt, ∀ g, s.tags[e]? = some g → tagMatches wk dc f g = false) → s.cnt < s.cfg.cacheCap →
      ∃ t, exec (.tblAlloc wk dc) s = .next t ∧
        t = { s with
          st := .ok, res := BitVec.ofNat 64 s.cnt, cnt := s.cnt + 1,
          tags := s.tags.set s.cnt { kind := wk, duty := dc, freq := f }, mem := t.mem } ∧
        (∀ n < s.cfg.sampleRate, memRead t.mem (cacheHandle s.cnt) (BitVec.ofNat 32 n) = some (
          if wk = .sin then
            (if n = 0 then outStage s.cfg.tableFmt 0#32
            else outStage s.cfg.tableFmt (sin32 (mul32 (rn32 false n 1)
              (div32 (mul32 0x40C90FDB#32 g) (rn32 false s.cfg.sampleRate 1)))))
          else outStage s.cfg.tableFmt (wave32 wk (phase32 s.cfg n f) dc))) ∧
        ∀ (h : Handle) (n : BitVec 32), h ≠ cacheHandle s.cnt → memRead t.mem h n = memRead s.mem h n) ∧
    ((∀ e < s.cnt, ∀ g, s.tags[e]? = some g → tagMatches wk dc f g = false) → s.cnt = s.cfg.cacheCap →
      exec (.tblAlloc wk dc) s = .next { s with st := .tableFull, res := 0#64 })

/-- 47_table_lut.md R553 (a), (b): a successful request asked again is a hit that changes nothing, and a request that differs in
the duty only gets another handle. -/
def Obligations.CacheRepeatsAndSeparates : Prop :=
  ∀ (wk : Wave) (dc : Duty) (s t : State), SizesOk s → s.cnt ≤ s.cfg.cacheCap →
    exec (.tblAlloc wk dc) s = .next t → t.st = .ok →
    exec (.tblAlloc wk dc) t = .next t ∧
    ∀ (dc' : Duty) (u : State), dc' ≠ dc → exec (.tblAlloc wk dc') t = .next u → u.st = .ok → u.res ≠ t.res

/-- 47_table_lut.md R553 (d), 20_memory.md R66: between resets the cache only grows, a valid entry keeps its tag and its
contents, and a valid handle stays valid. -/
def Obligations.CacheNeverForgets : Prop :=
  ∀ s t : State, SizesOk s → s.cnt ≤ s.cfg.cacheCap → s.rst = false → step s = .next t →
    s.cnt ≤ t.cnt ∧ t.cnt ≤ s.cfg.cacheCap ∧
    (∀ e < s.cnt, t.tags[e]? = s.tags[e]? ∧
      ∀ n : BitVec 32, memRead t.mem (cacheHandle e) n = memRead s.mem (cacheHandle e) n) ∧
    ∀ h : Handle, handleValid s h = true → handleValid t h = true

/-- 47_table_lut.md R549: `LUT.BIND` of a handle that names a built table completes and writes the reader's three
registers. -/
def Obligations.LutBind : Prop :=
  ∀ (i : BitVec 8) (s : State) (h : Handle), i.toNat < s.cfg.nLut → i.toNat < s.lut.length →
    h = s.opa.setWidth 32 →
    (h.msb = false ∧ h.toNat % 2 ^ 31 < s.cnt ∨
      h.msb = true ∧ h.toNat % 2 ^ 31 < s.cfg.nPriv ∧ s.privOk[h.toNat % 2 ^ 31]? = some true) →
    exec (.lutBind i) s = .next { s with
      st := .ok, res := 0#64, lut := s.lut.set i.toNat { bound := true, tbl := h, idx := 0#32 } }

/-- 47_table_lut.md R551, R552, 20_memory.md R65: on a bound reader `LUT.NEXT` returns the entry at the index before the
advance and moves the index, `LUT.AT` returns the entry at the operand modulo the length and writes nothing; both read
inside the table, a canonical word. -/
def Obligations.LutReads : Prop :=
  ∀ (i : BitVec 8) (s : State) (l : Lut), Wired s → i.toNat < s.cfg.nLut → s.lut[i.toNat]? = some l → l.bound = true →
    (∃ w : Word, memRead s.mem l.tbl l.idx = some w ∧ canonical s.cfg.tableFmt w = w ∧
      exec (.lutNext i) s = .next { s with
        st := .ok, res := w,
        lut := s.lut.set i.toNat { l with idx := BitVec.ofNat 32 ((l.idx.toNat + 1) % s.cfg.sampleRate) } }) ∧
    ∃ w : Word, memRead s.mem l.tbl (BitVec.ofNat 32 (s.opa.toNat % s.cfg.sampleRate)) = some w ∧
      canonical s.cfg.tableFmt w = w ∧ exec (.lutAt i) s = .next { s with st := .ok, res := w }

/-- 47_table_lut.md R554: after a bind the k-th `LUT.NEXT`, k from 0, returns entry `k mod SAMPLE_RATE`. -/
def Obligations.LutNextWalks : Prop :=
  ∀ (i : BitVec 8) (s : State) (l : Lut), Wired s → i.toNat < s.cfg.nLut → s.lut[i.toNat]? = some l → l.bound = true →
    l.idx = 0#32 →
    ∀ k : Nat, ∃ t, repeatExec (.lutNext i) (k + 1) s = .next t ∧ t.st = .ok ∧
      memRead s.mem l.tbl (BitVec.ofNat 32 (k % s.cfg.sampleRate)) = some t.res ∧
      t.lut[i.toNat]? = some { l with idx := BitVec.ofNat 32 ((k + 1) % s.cfg.sampleRate) }

/-- 47_table_lut.md R554, R542: build a private table of a saw, triangle or square, bind a reader to the handle returned, and
read it at any index: the word is that of `SMP` at the index modulo the length. -/
def Obligations.TableReadsBack : Prop :=
  ∀ (wk : Wave) (dc : Duty) (j i : BitVec 8) (s : State) (f : F32),
    SizesOk s → wk.isSourceKind = true → wk ≠ .sin → s.cfg.privLen[j.toNat]? = some s.cfg.sampleRate →
    f = s.opb.setWidth 32 → freqInContract f = true → i.toNat < s.cfg.nLut →
    ∃ s₁ s₂, exec (.tblBuild wk dc j) s = .next s₁ ∧
      exec (.lutBind i) { s₁ with opa := s₁.res } = .next s₂ ∧ s₂.st = .ok ∧
      ∀ k : Word, exec (.lutAt i) { s₂ with opa := k } = .next { s₂ with
        opa := k, st := .ok, res := smpWord s.cfg wk s.cfg.tableFmt dc (k.toNat % s.cfg.sampleRate) f }

/-! ## The variable-shape oscillator -/

/-- 48_vso.md R571 to R575: the five setters complete on every instance there is, whatever the operand; each writes its
parameter and its flag of `wr`, and nothing else of the spec's. (`undef` is the model's own, log 11: an operand out of contract
sets the setter's mark, and no setter clears one.) -/
def Obligations.VsoSetters : Prop :=
  ∀ (i : BitVec 8) (s : State) (v : Vso) (hz x : F32),
    i.toNat < s.cfg.nVso → s.vso[i.toNat]? = some v →
    x = s.opa.setWidth 32 → hz = div32 x (rn32 false s.cfg.sampleRate 1) →
    exec (.vsoSetMaster i) s = .next { s with
      st := .ok, res := 0#64,
      vso := s.vso.set i.toNat { v with
        mfreq := if le32 0x3E800000#32 hz then 0x3E800000#32 else hz, wr := v.wr ||| 0b00001#5,
        undef := if isFin32 x && le32 zero32 x then v.undef else v.undef ||| 0b00001#5 } } ∧
    exec (.vsoSetSlave i) s = .next { s with
      st := .ok, res := 0#64,
      vso := s.vso.set i.toNat { v with
        sfreq := if le32 0x3E800000#32 hz then 0x3E800000#32 else hz, wr := v.wr ||| 0b00010#5,
        undef := if isFin32 x && lt32 zero32 hz then v.undef else v.undef ||| 0b00010#5 } } ∧
    exec (.vsoSetPw i) s = .next { s with
      st := .ok, res := 0#64,
      vso := s.vso.set i.toNat { v with
        pwReq := x, wr := v.wr ||| 0b00100#5, undef := if isFin32 x then v.undef else v.undef ||| 0b00100#5 } } ∧
    exec (.vsoSetShape i) s = .next { s with
      st := .ok, res := 0#64,
      vso := s.vso.set i.toNat { v with
        shape := x, wr := v.wr ||| 0b01000#5,
        undef := if le32 zero32 x && le32 x one32 then v.undef else v.undef ||| 0b01000#5 } } ∧
    ∀ g : Bool, exec (.vsoSetSync g i) s = .next { s with
      st := .ok, res := 0#64, vso := s.vso.set i.toNat { v with sync := g, wr := v.wr ||| 0b10000#5 } }

/-- 48_vso.md R578, R579: the correction kernels with their values at the ends, the blend amounts and slopes of a tick, and the
naive sample. -/
def Obligations.VsoKernels : Prop :=
  (∀ t u t1 t2 : F32,
    u = sub32 0x3F800000#32 t → t1 = mul32 0x3F000000#32 t → t2 = mul32 t1 t1 →
    thisBlep t = mul32 (mul32 0x3F000000#32 t) t ∧ nextBlep t = mul32 (mul32 0xBF000000#32 u) u ∧
    nextIblep t = sub32 (add32 (sub32 0x3E400000#32 t1) (mul32 0x3FC00000#32 t2)) (mul32 t2 t2) ∧
    thisIblep t = nextIblep u) ∧
  thisBlep 0#32 = 0#32 ∧ thisBlep 0x3F800000#32 = 0x3F000000#32 ∧
  nextBlep 0#32 = 0xBF000000#32 ∧ nextBlep 0x3F800000#32 = 0x80000000#32 ∧
  nextIblep 0#32 = 0x3E400000#32 ∧ nextIblep 0x3F800000#32 = 0#32 ∧
  thisIblep 0#32 = 0#32 ∧ thisIblep 0x3F800000#32 = 0x3E400000#32 ∧
  (∀ (v : Vso) (pw d e : F32),
    pw = pwEff v.sfreq v.pwReq → d = sub32 v.shape 0x3F000000#32 →
    e = sub32 0x3F800000#32 (mul32 v.shape 0x40000000#32) →
    vsoShapeOf v =
      { pw := pw, prevPw := v.prevPw, sf := v.sfreq,
        sq := mul32 (if lt32 0#32 d then d else 0#32) 0x40000000#32,
        tri := if lt32 0#32 e then e else 0#32,
        su := div32 0x3F800000#32 pw, sd := div32 0x3F800000#32 (sub32 0x3F800000#32 pw) }) ∧
  ∀ (k : VsoShape) (ph square triangle saw : F32),
    square = (if lt32 ph k.pw then 0#32 else 0x3F800000#32) →
    triangle = (if lt32 ph k.pw then mul32 ph k.su else sub32 0x3F800000#32 (mul32 (sub32 ph k.pw) k.sd)) →
    saw = add32 ph (mul32 (sub32 square ph) k.sq) →
    naive32 k ph = add32 saw (mul32 (sub32 triangle saw) k.tri)

/-- 48_vso.md R580, R584: `VSO.TICK` completes when all five parameters are written and in contract (R576; `undef` is the
model's mark of log 11) and the slave phase is in [0, 1). `a` is the advanced slave phase, `hard` says that the master wraps
with sync on, `tdr` that the reset crosses a transition; the rising and the falling transition happen where `rise` and `fall`
say, each with its corrections; the output is twice the `this` part less one, the `next` part with the naive sample of the new
phase is stored, and nothing else of the instance or the state is written. -/
def Obligations.VsoTickResult : Prop :=
  ∀ (i : BitVec 8) (s : State) (v : Vso) (k : VsoShape) (m a rt p sp val ts t t' : F32) (hard tdr rise fall : Bool)
    (th₀ nx₀ th₁ nx₁ th₂ nx₂ sph y : F32),
    i.toNat < s.cfg.nVso → s.vso[i.toNat]? = some v → v.wr = 0b11111#5 → v.undef = 0#5 →
    le32 zero32 v.mfreq = true → le32 v.mfreq 0x3E800000#32 = true →
    lt32 zero32 v.sfreq = true → le32 v.sfreq 0x3E800000#32 = true → isFin32 v.pwReq = true →
    le32 zero32 v.shape = true → le32 v.shape 0x3F800000#32 = true → InUnit v.sph →
    k = vsoShapeOf v → m = add32 v.mph v.mfreq → a = add32 v.sph v.sfreq →
    hard = (le32 one32 m && v.sync) →
    rt = div32 (sub32 m one32) v.mfreq →
    p = add32 v.sph (mul32 (sub32 one32 rt) v.sfreq) → sp = (if le32 one32 p then sub32 p one32 else p) →
    tdr = (le32 one32 p || (!v.high && le32 k.pw sp)) → val = naive32 k sp →
    th₀ = (if hard then sub32 v.next (mul32 val (thisBlep rt)) else v.next) →
    nx₀ = (if hard then sub32 0#32 (mul32 val (nextBlep rt)) else 0#32) →
    ts = mul32 (mul32 (add32 k.su k.sd) v.sfreq) k.tri →
    rise = ((!hard || tdr) && !v.high && !lt32 a k.pw) →
    fall = ((!hard || tdr) && (v.high || rise) && !lt32 a one32) →
    t = div32 (sub32 a k.pw) (add32 (sub32 v.prevPw k.pw) v.sfreq) →
    th₁ = (if rise then sub32 (add32 th₀ (mul32 k.sq (thisBlep t))) (mul32 ts (thisIblep t)) else th₀) →
    nx₁ = (if rise then sub32 (add32 nx₀ (mul32 k.sq (nextBlep t))) (mul32 ts (nextIblep t)) else nx₀) →
    t' = div32 (sub32 a one32) v.sfreq →
    th₂ = (if fall then
      add32 (sub32 th₁ (mul32 (sub32 one32 k.tri) (thisBlep t'))) (mul32 ts (thisIblep t')) else th₁) →
    nx₂ = (if fall then
      add32 (sub32 nx₁ (mul32 (sub32 one32 k.tri) (nextBlep t'))) (mul32 ts (nextIblep t')) else nx₁) →
    sph = (if hard then mul32 rt v.sfreq else if fall then sub32 a one32 else a) →
    y = sub32 (mul32 two32 th₂) one32 →
    exec (.vsoTick i) s = .next { s with
      st := .ok, res := y.setWidth 64,
      vso := s.vso.set i.toNat { v with
        mph := if le32 one32 m then sub32 m one32 else m,
        sph := sph,
        high := !hard && (v.high || rise) && !fall,
        prevPw := pwEff v.sfreq v.pwReq,
        next := add32 nx₂ (naive32 k sph) } }

/-- 48_vso.md R577: the effective pulse width lies between twice the slave frequency and one minus that, and above 0. It lies
below 1 when the slave frequency is above 2^-26; for a smaller one the upper limit itself rounds to 1. -/
def Obligations.PulseWidthBounds : Prop :=
  ∀ sf pw : F32, lt32 zero32 sf = true → le32 sf 0x3E800000#32 = true → isFin32 pw = true →
    (sf = 0x3E800000#32 → pwEff sf pw = half32) ∧
    (lt32 sf 0x3E800000#32 = true →
      le32 (mul32 sf two32) (pwEff sf pw) = true ∧ le32 (pwEff sf pw) (sub32 one32 (mul32 two32 sf)) = true ∧
      (le32 (mul32 sf two32) pw = true → le32 pw (sub32 one32 (mul32 two32 sf)) = true → pwEff sf pw = pw)) ∧
    lt32 zero32 (pwEff sf pw) = true ∧ le32 (pwEff sf pw) one32 = true ∧
    (lt32 0x32800000#32 sf = true → lt32 (pwEff sf pw) one32 = true)

/-- 48_vso.md R582: the first tick after reset returns -1.0 whatever the parameters, and stores the naive sample of the
phase it reaches. -/
def Obligations.VsoFirstTick : Prop :=
  ∀ v : Vso, vsoInContract v = true → v.mph = 0#32 → v.sph = 0#32 → v.next = 0#32 → v.high = false →
    (vsoTick v).2 = 0xBF800000#32 ∧
    (vsoTick v).1.next = add32 zero32 (naive32 (vsoShapeOf v) v.sfreq) ∧
    int32 (vsoTick v).1.mph = int32 v.mfreq ∧ (vsoTick v).1.sph = v.sfreq ∧ (vsoTick v).1.high = false

/-- 48_vso.md R581: with phases in [0, 1) and parameters in contract, the loop of a tick has been left after at most three
passes of its body, with the slave phase back in [0, 1). -/
def Obligations.VsoLoopEnds : Prop :=
  ∀ (v : Vso) (this nxt : F32), vsoInContract v = true → InUnit v.sph →
    ∃ a : VsoAcc,
      vsoPasses (vsoShapeOf v) 3 { this := this, nxt := nxt, sph := add32 v.sph v.sfreq, high := v.high } = (a, true) ∧
      InUnit a.sph

/-- 48_vso.md R584: with sync off the master has no effect on the output or on any register but its own phase. -/
def Obligations.VsoSyncOffIgnoresMaster : Prop :=
  ∀ (v : Vso) (mph mfreq : F32), v.sync = false →
    (vsoTick { v with mph := mph, mfreq := mfreq }).2 = (vsoTick v).2 ∧
    { (vsoTick { v with mph := mph, mfreq := mfreq }).1 with mph := v.mph, mfreq := v.mfreq } =
      { (vsoTick v).1 with mph := v.mph }

/-! ## The envelope -/

/-- 49_adsr.md R603, R605 to R609: the four setters complete on every instance there is with parameters in contract; each
writes its registers and its flag of `wr`. (`undef` is the model's own, log 12: a setter in contract sets no mark and clears
none.) -/
def Obligations.EnvSetters : Prop :=
  ∀ (i : BitVec 8) (s : State) (e : Env) (x y rate l : F32) (tc : F32 → F32),
    i.toNat < s.cfg.nEnv → s.env[i.toNat]? = some e → isNaN32 x = false →
    x = s.opa.setWidth 32 → y = s.opb.setWidth 32 → rate = rn32 false s.cfg.sampleRate 1 →
    l = add32 (add32 (mul32 0x41100000#32 (pow32 y 0x41200000#32)) (mul32 0x3E99999A#32 y)) 0x3F8147AE#32 →
    tc = (fun t => if lt32 zero32 t then sub32 one32 (exp32 (div32 negOne32 (mul32 t rate))) else one32) →
    (le32 zero32 y = true → le32 y one32 = true →
      exec (.envSetAttack i) s = .next { s with
        st := .ok, res := 0#64,
        env := s.env.set i.toNat { e with
          level := l,
          d0a := if lt32 zero32 x then
            sub32 one32 (exp32 (div32 (ln32 (sub32 one32 (div32 one32 l))) (mul32 x rate))) else one32,
          wr := e.wr ||| 0b0001#4 } }) ∧
    exec (.envSetDecay i) s = .next { s with
      st := .ok, res := 0#64,
      env := s.env.set i.toNat
        { e with d0d := tc x, wr := e.wr ||| 0b0010#4 } } ∧
    exec (.envSetRelease i) s = .next { s with
      st := .ok, res := 0#64,
      env := s.env.set i.toNat
        { e with d0r := tc x, wr := e.wr ||| 0b0100#4 } } ∧
    exec (.envSetSustain i) s = .next { s with
      st := .ok, res := 0#64,
      env := s.env.set i.toNat { e with
        sus := if le32 x zero32 then 0xBC23D70A#32 else if lt32 one32 x then one32 else x,
        wr := e.wr ||| 0b1000#4 } }

/-- The model's choice (log 12) for 93_implementation_defined.md U6: a setter out of contract completes, sets its flag of
`wr`, leaves the state registers alone, and marks its registers undefined; nothing is said of the values stored. -/
def Obligations.EnvSettersOutOfContract : Prop :=
  ∀ (i : BitVec 8) (s : State) (e : Env) (x y : F32),
    i.toNat < s.cfg.nEnv → s.env[i.toNat]? = some e → x = s.opa.setWidth 32 → y = s.opb.setWidth 32 →
    (isNaN32 x = true ∨ ¬(le32 zero32 y = true ∧ le32 y one32 = true) →
      ∃ (a b : F32) (n : Nat), exec (.envSetAttack i) s = .next { s with
        st := .ok, res := 0#64, freeCount := n,
        env := s.env.set i.toNat
          { e with level := a, d0a := b, wr := e.wr ||| 0b0001#4, undef := e.undef ||| 0b0001#4 } }) ∧
    (isNaN32 x = true →
      (∃ (a : F32) (n : Nat), exec (.envSetDecay i) s = .next { s with
        st := .ok, res := 0#64, freeCount := n,
        env := s.env.set i.toNat { e with d0d := a, wr := e.wr ||| 0b0010#4, undef := e.undef ||| 0b0010#4 } }) ∧
      (∃ (a : F32) (n : Nat), exec (.envSetRelease i) s = .next { s with
        st := .ok, res := 0#64, freeCount := n,
        env := s.env.set i.toNat { e with d0r := a, wr := e.wr ||| 0b0100#4, undef := e.undef ||| 0b0100#4 } }) ∧
      ∃ (a : F32) (n : Nat), exec (.envSetSustain i) s = .next { s with
        st := .ok, res := 0#64, freeCount := n,
        env := s.env.set i.toNat { e with sus := a, wr := e.wr ||| 0b1000#4, undef := e.undef ||| 0b1000#4 } })

/-- 49_adsr.md R609, 10_state.md R30: within the contract every stored coefficient is in [0.0, 1.0], and the attack level is
between the levels of the shapes 0.0 and 1.0. -/
def Obligations.EnvCoefficientsInRange : Prop :=
  ∀ (c : Params) (seconds shape : F32), c.wf → isNaN32 seconds = false →
    (le32 zero32 (timeCoeff c seconds) = true ∧ le32 (timeCoeff c seconds) one32 = true) ∧
    (le32 zero32 shape = true → le32 shape one32 = true →
      le32 0x3F8147AE#32 (envLevel shape) = true ∧ le32 (envLevel shape) 0x4124F5C3#32 = true ∧
      le32 zero32 (attackCoeff c seconds (envLevel shape)) = true ∧
      le32 (attackCoeff c seconds (envLevel shape)) one32 = true) ∧
    (sustainTarget seconds = 0xBC23D70A#32 ∨
      lt32 zero32 (sustainTarget seconds) = true ∧ le32 (sustainTarget seconds) one32 = true)

/-- 49_adsr.md R602, R610, R611: `ENV.TICK` completes when all four parameter sets are written and defined; the edge rule picks
the stage, the stage takes one step, and the clamps switch it. It writes `state`, `x` and `gate_prev` and nothing else. -/
def Obligations.EnvTickStages : Prop :=
  ∀ (g : Bool) (i : BitVec 8) (s : State) (e : Env) (st : Stage),
    i.toNat < s.cfg.nEnv → s.env[i.toNat]? = some e → e.wr = 0b1111#4 → e.undef = 0#4 →
    (g = true → e.gatePrev = false → st = .attack) → (g = false → e.gatePrev = true → st = .release) →
    (g = e.gatePrev → st = e.state) →
    ∃ (u : Env) (y : F32),
      exec (.envTick g i) s = .next { s with st := .ok, res := y.setWidth 64, env := s.env.set i.toNat u } ∧
      u = { e with state := u.state, x := u.x, gatePrev := g } ∧
      (st = .init → u.state = .init ∧ u.x = e.x ∧ y = 0#32) ∧
      (st = .attack → ∀ z, z = add32 e.x (mul32 e.d0a (sub32 e.level e.x)) →
        (lt32 one32 z = true → u.state = .decay ∧ u.x = one32 ∧ y = one32) ∧
        (lt32 one32 z = false → u.state = .attack ∧ u.x = z ∧ y = z)) ∧
      (st = .decay → ∀ z, z = add32 e.x (mul32 e.d0d (sub32 e.sus e.x)) →
        (lt32 z zero32 = true → u.state = .init ∧ u.x = 0#32 ∧ y = 0#32) ∧
        (lt32 z zero32 = false → u.state = .decay ∧ u.x = z ∧ y = z)) ∧
      (st = .release → ∀ z, z = add32 e.x (mul32 e.d0r (sub32 0xBC23D70A#32 e.x)) →
        (lt32 z zero32 = true → u.state = .init ∧ u.x = 0#32 ∧ y = 0#32) ∧
        (lt32 z zero32 = false → u.state = .release ∧ u.x = z ∧ y = z))

/-- 49_adsr.md R611, R613: from an envelope as it must be between commands, every output is the new running value and lies in
[0.0, 1.0]; in an attack it never falls, in a release it never rises. -/
def Obligations.EnvOutputInRange : Prop :=
  ∀ (g : Bool) (e : Env), EnvOk e → e.wr = 0b1111#4 → e.undef = 0#4 →
    envOutput g e = (envTicked g e).x ∧
    le32 zero32 (envOutput g e) = true ∧ le32 (envOutput g e) one32 = true ∧
    ((envTicked g e).state = .init → (envTicked g e).x = 0#32) ∧
    ((g = true ∧ e.gatePrev = false ∨ g = e.gatePrev ∧ e.state = .attack) → le32 e.x (envOutput g e) = true) ∧
    ((g = false ∧ e.gatePrev = true ∨ g = e.gatePrev ∧ e.state = .release) → le32 (envOutput g e) e.x = true)

/-- 49_adsr.md R612: `ENV.STAT` completes on every instance there is, written or not, and changes `RES` and `ST` only. -/
def Obligations.EnvStat : Prop :=
  ∀ (i : BitVec 8) (s : State) (e : Env), i.toNat < s.cfg.nEnv → s.env[i.toNat]? = some e →
    exec (.envStat i) s = .next { s with
      st := .ok,
      res := match e.state with | .init => 0#64 | .attack => 1#64 | .decay => 2#64 | .release => 3#64 }

/-! ## Errors -/

/-- 30_encoding.md R85, R88 (5): an instance or buffer index at or above its count is illegal, in every command that names
one. -/
def Obligations.IndexOutOfRangeIllegal : Prop :=
  ∀ (i : BitVec 8) (s r : State) (wk : Wave) (dc : Duty) (df : Fmt) (g : Bool),
    r = { s with st := .illegal, res := 0#64 } →
    (s.cfg.nOsc ≤ i.toNat →
      exec (.oscCfg wk dc i) s = .next r ∧ exec (.oscNext df i) s = .next r ∧ exec (.oscAt df i) s = .next r) ∧
    (s.cfg.nPriv ≤ i.toNat → exec (.tblBuild wk dc i) s = .next r) ∧
    (s.cfg.nLut ≤ i.toNat →
      exec (.lutBind i) s = .next r ∧ exec (.lutNext i) s = .next r ∧ exec (.lutAt i) s = .next r) ∧
    (s.cfg.nVso ≤ i.toNat →
      exec (.vsoSetMaster i) s = .next r ∧ exec (.vsoSetSlave i) s = .next r ∧ exec (.vsoSetPw i) s = .next r ∧
      exec (.vsoSetShape i) s = .next r ∧ exec (.vsoSetSync g i) s = .next r ∧ exec (.vsoTick i) s = .next r) ∧
    (s.cfg.nEnv ≤ i.toNat →
      exec (.envSetAttack i) s = .next r ∧ exec (.envSetDecay i) s = .next r ∧ exec (.envSetRelease i) s = .next r ∧
      exec (.envSetSustain i) s = .next r ∧ exec (.envTick g i) s = .next r ∧ exec (.envStat i) s = .next r)

/-- 60_exceptions.md R702, 70_reset_and_hazards.md R760: a command whose precondition on the state fails is illegal. -/
def Obligations.PrematureCommandIllegal : Prop :=
  ∀ (i : BitVec 8) (s r : State) (df : Fmt) (g : Bool), r = { s with st := .illegal, res := 0#64 } →
    (∀ o, s.osc[i.toNat]? = some o → o.cfg = false →
      exec (.oscNext df i) s = .next r ∧ exec (.oscAt df i) s = .next r) ∧
    (∀ l, s.lut[i.toNat]? = some l → l.bound = false →
      exec (.lutNext i) s = .next r ∧ exec (.lutAt i) s = .next r) ∧
    (handleValid s (s.opa.setWidth 32) = false → exec (.lutBind i) s = .next r) ∧
    (∀ v, s.vso[i.toNat]? = some v → v.wr ≠ 0b11111#5 → exec (.vsoTick i) s = .next r) ∧
    ∀ e, s.env[i.toNat]? = some e → e.wr ≠ 0b1111#4 → exec (.envTick g i) s = .next r

/-- 46_waveform.md R504, 48_vso.md R576, 70_reset_and_hazards.md R769: the spec defines neither a result nor a next state on
these inputs, and the model takes no step. -/
def Obligations.OutOfContractRefused : Prop :=
  ∀ (i : BitVec 8) (s : State) (wk : Wave) (dc : Duty) (df : Fmt) (g : Bool),
    (phaseInContract s.cfg s.opa.toNat (s.opb.setWidth 32) = false →
      exec (smpInstr wk df dc) s = .refused .frequencyOutOfContract) ∧
    (∀ o, i.toNat < s.cfg.nOsc → s.osc[i.toNat]? = some o → o.cfg = true →
      (freqInContract o.freq = false → exec (.oscNext df i) s = .refused .frequencyOutOfContract) ∧
      (phaseInContract s.cfg s.opa.toNat o.freq = false →
        exec (.oscAt df i) s = .refused .frequencyOutOfContract)) ∧
    (freqInContract (s.opb.setWidth 32) = false → wk.isSourceKind = true →
      exec (.tblAlloc wk dc) s = .refused .frequencyOutOfContract ∧
      (s.cfg.privLen[i.toNat]? = some s.cfg.sampleRate →
        exec (.tblBuild wk dc i) s = .refused .frequencyOutOfContract)) ∧
    (∀ v, i.toNat < s.cfg.nVso → s.vso[i.toNat]? = some v → v.wr = 0b11111#5 →
      v.undef ≠ 0#5 ∨ vsoInContract v = false →
      exec (.vsoTick i) s = .refused .vsoParameterOutOfContract) ∧
    ∀ e, i.toNat < s.cfg.nEnv → s.env[i.toNat]? = some e → e.wr = 0b1111#4 → e.undef ≠ 0#4 →
      exec (.envTick g i) s = .refused .envParameterOutOfContract

/-- 60_exceptions.md R703: a command that ends with a nonzero status has changed `ST` and `RES` and nothing else. -/
def Obligations.ErrorsChangeNothing : Prop :=
  ∀ s t : State, s.rst = false → step s = .next t → t.st ≠ .ok → t = { s with st := t.st, res := t.res }

/-! ## The whole machine -/

/-- 10_state.md R21, R24, R34, 20_memory.md R63, 60_exceptions.md R723: a command never writes the input ports or the
configuration record; it writes the registers of its own unit only, and of its own instance only; and only the two `TBL`
commands write the table memory, the tags and the buffer flags. -/
def Obligations.CommandsWriteTheirOwn : Prop :=
  ∀ s t : State, s.rst = false → step s = .next t →
    (t.cfg = s.cfg ∧ t.rst = s.rst ∧ t.cmd = s.cmd ∧ t.opa = s.opa ∧ t.opb = s.opb) ∧
    (∀ k : Nat, k ≠ (instField s.cmd).toNat ∨ opcField s.cmd ∉ [0x11#8, 0x12#8] → t.osc[k]? = s.osc[k]?) ∧
    (∀ k : Nat, k ≠ (instField s.cmd).toNat ∨ opcField s.cmd ∉ [0x1A#8, 0x1B#8] → t.lut[k]? = s.lut[k]?) ∧
    (∀ k : Nat, k ≠ (instField s.cmd).toNat ∨
      opcField s.cmd ∉ [0x20#8, 0x21#8, 0x22#8, 0x23#8, 0x24#8, 0x25#8] → t.vso[k]? = s.vso[k]?) ∧
    (∀ k : Nat, k ≠ (instField s.cmd).toNat ∨
      opcField s.cmd ∉ [0x30#8, 0x31#8, 0x32#8, 0x33#8, 0x34#8] → t.env[k]? = s.env[k]?) ∧
    (opcField s.cmd ≠ 0x19#8 → t.cnt = s.cnt ∧ t.tags = s.tags) ∧
    (opcField s.cmd ≠ 0x18#8 → t.privOk = s.privOk) ∧
    (opcField s.cmd ∉ [0x18#8, 0x19#8] →
      ∀ (h : Handle) (n : BitVec 32), memRead t.mem h n = memRead s.mem h n)

/-- 60_exceptions.md R723: a command reads no register of an instance that it does not address, of its own unit or of another:
whatever such an instance holds, the command does the same. The commands of a unit address instance `INST` of it. -/
def Obligations.InstancesIndependent : Prop :=
  ∀ (s t : State) (k : Nat), s.rst = false → step s = .next t →
    (k ≠ (instField s.cmd).toNat ∨ opcField s.cmd ∉ [0x11#8, 0x12#8, 0x13#8] →
      ∀ o : Osc, step { s with osc := s.osc.set k o } = .next { t with osc := t.osc.set k o }) ∧
    (k ≠ (instField s.cmd).toNat ∨ opcField s.cmd ∉ [0x1A#8, 0x1B#8, 0x1C#8] →
      ∀ l : Lut, step { s with lut := s.lut.set k l } = .next { t with lut := t.lut.set k l }) ∧
    (k ≠ (instField s.cmd).toNat ∨ opcField s.cmd ∉ [0x20#8, 0x21#8, 0x22#8, 0x23#8, 0x24#8, 0x25#8] →
      ∀ v : Vso, step { s with vso := s.vso.set k v } = .next { t with vso := t.vso.set k v }) ∧
    (k ≠ (instField s.cmd).toNat ∨ opcField s.cmd ∉ [0x30#8, 0x31#8, 0x32#8, 0x33#8, 0x34#8, 0x35#8] →
      ∀ e : Env, step { s with env := s.env.set k e } = .next { t with env := t.env.set k e })

/-- 70_reset_and_hazards.md R752: between resets no command clears a `cfg`, `bound`, `wr` or `PRIV_OK` flag, or lowers `CNT`; nor
does one clear a mark of an operand out of contract (`undef`, the model's own, logs 11 and 12; 93_implementation_defined.md U5,
U6). -/
def Obligations.FlagsNeverCleared : Prop :=
  ∀ s t : State, s.rst = false → step s = .next t →
    (∀ (k : Nat) (o : Osc), s.osc[k]? = some o → ∃ o', t.osc[k]? = some o' ∧ (o.cfg = true → o'.cfg = true)) ∧
    (∀ (k : Nat) (l : Lut), s.lut[k]? = some l → ∃ l', t.lut[k]? = some l' ∧ (l.bound = true → l'.bound = true)) ∧
    (∀ (k : Nat) (v : Vso), s.vso[k]? = some v →
      ∃ v', t.vso[k]? = some v' ∧ v.wr &&& v'.wr = v.wr ∧ v.undef &&& v'.undef = v.undef) ∧
    (∀ (k : Nat) (e : Env), s.env[k]? = some e →
      ∃ e', t.env[k]? = some e' ∧ e.wr &&& e'.wr = e.wr ∧ e.undef &&& e'.undef = e.undef) ∧
    (∀ k : Nat, s.privOk[k]? = some true → t.privOk[k]? = some true) ∧ s.cnt ≤ t.cnt

/-- 20_memory.md R65, R70, 70_reset_and_hazards.md R781: from a state that keeps the block's invariant no step faults, and a
step is refused only on an input on which the spec defines no next state: the frequency contract of the command has failed, or a
tick's instance has been given an operand out of contract. The fault and the refusals are the model's choice (logs 9 to 12). -/
def Obligations.StepStopsOnlyOutOfContract : Prop :=
  ∀ s : State, Wired s →
    (∀ f, step s ≠ .fault f) ∧
    ∀ r, step s = .refused r → s.rst = false ∧
      ((r = .frequencyOutOfContract ∧
        (opcField s.cmd = 0x10#8 ∧ phaseInContract s.cfg s.opa.toNat (s.opb.setWidth 32) = false ∨
         opcField s.cmd = 0x12#8 ∧
           (∃ o, s.osc[(instField s.cmd).toNat]? = some o ∧ o.cfg = true ∧ freqInContract o.freq = false) ∨
         opcField s.cmd = 0x13#8 ∧
           (∃ o, s.osc[(instField s.cmd).toNat]? = some o ∧ o.cfg = true ∧
             phaseInContract s.cfg s.opa.toNat o.freq = false) ∨
         opcField s.cmd ∈ [0x18#8, 0x19#8] ∧ freqInContract (s.opb.setWidth 32) = false)) ∨
       (r = .vsoParameterOutOfContract ∧ opcField s.cmd = 0x25#8 ∧
         ∃ v, s.vso[(instField s.cmd).toNat]? = some v ∧ v.wr = 0b11111#5 ∧ (v.undef ≠ 0#5 ∨ vsoInContract v = false)) ∨
       (r = .envParameterOutOfContract ∧ opcField s.cmd = 0x34#8 ∧
         ∃ e, s.env[(instField s.cmd).toNat]? = some e ∧ e.wr = 0b1111#4 ∧ e.undef ≠ 0#4))

/-- The invariants hold right after reset, for every configuration record within the constraints of 00_scope.md R6. -/
def Obligations.InvariantsAtReset : Prop :=
  (∀ c : Params, c.wf →
    Wired (State.resetWith c) ∧ PhasesOk (State.resetWith c) ∧ EnvelopesOk (State.resetWith c)) ∧
  Wired State.reset ∧ PhasesOk State.reset ∧ EnvelopesOk State.reset

/-- 20_memory.md R61, R62, R65, 47_table_lut.md R540, 10_state.md R26, R31: every step keeps the block's invariant: the memory's
canonical form, `CNT` within the capacity, every table with a valid handle filled with canonical words, every bound reader
on a valid handle with its index inside the table. -/
def Obligations.StepKeepsWired : Prop :=
  ∀ s t : State, Wired s → step s = .next t → Wired t

/-- 10_state.md R25, R27, 48_vso.md R576, R583: every step keeps every phase in [0, 1), and every parameter of a variable-shape
oscillator that was written in contract within the ranges of R576. -/
def Obligations.StepKeepsPhases : Prop :=
  ∀ s t : State, s.cfg.wf → PhasesOk s → step s = .next t → PhasesOk t

/-- 49_adsr.md R611, 10_state.md R29, R30: every step keeps every running value in [0.0, 1.0], `+0.0` in Init, and every
written parameter register at a legal value. -/
def Obligations.StepKeepsEnvelopes : Prop :=
  ∀ s t : State, s.cfg.wf → EnvelopesOk s → step s = .next t → EnvelopesOk t
end

