-- ==== Sys2Proof/Laws/Decode.lean ====
section
/-! SUPPORT. The fields of a packed command word, a command word from its fields, and the codes of the closed sets. -/

namespace Sys2Proof

/-- A command word as a number, by its fields. -/
theorem toNat_packCommand (opc : BitVec 8) (df sf wk : BitVec 4) (dc : BitVec 2) (g z : BitVec 1) (inst : BitVec 8) :
    (packCommand opc df sf wk dc g z inst).toNat =
      opc.toNat * 2 ^ 24 + df.toNat * 2 ^ 20 + sf.toNat * 2 ^ 16 + wk.toNat * 2 ^ 12 + dc.toNat * 2 ^ 10 +
      g.toNat * 2 ^ 9 + z.toNat * 2 ^ 8 + inst.toNat := by
  unfold packCommand
  simp only [BitVec.toNat_append]
  have h1 := df.isLt
  have h2 := sf.isLt
  have h3 := wk.isLt
  have h4 := dc.isLt
  have h5 := g.isLt
  have h6 := z.isLt
  have h7 := inst.isLt
  rw [← Nat.shiftLeft_add_eq_or_of_lt h7, ← Nat.shiftLeft_add_eq_or_of_lt h6, ← Nat.shiftLeft_add_eq_or_of_lt h5,
    ← Nat.shiftLeft_add_eq_or_of_lt h4, ← Nat.shiftLeft_add_eq_or_of_lt h3, ← Nat.shiftLeft_add_eq_or_of_lt h2,
    ← Nat.shiftLeft_add_eq_or_of_lt h1]
  simp only [Nat.shiftLeft_eq]
  ring

section
variable (opc : BitVec 8) (df sf wk : BitVec 4) (dc : BitVec 2) (g z : BitVec 1) (inst : BitVec 8)

/-- The bounds of the fields, for arithmetic. -/
theorem field_bounds : opc.toNat < 256 ∧ df.toNat < 16 ∧ sf.toNat < 16 ∧ wk.toNat < 16 ∧ dc.toNat < 4 ∧ g.toNat < 2 ∧
    z.toNat < 2 ∧ inst.toNat < 256 :=
  ⟨opc.isLt, df.isLt, sf.isLt, wk.isLt, dc.isLt, g.isLt, z.isLt, inst.isLt⟩

@[simp] theorem opcField_packCommand : opcField (packCommand opc df sf wk dc g z inst) = opc := by
  have h := field_bounds opc df sf wk dc g z inst
  apply BitVec.eq_of_toNat_eq
  simp only [opcField, BitVec.extractLsb'_toNat, toNat_packCommand, Nat.shiftRight_eq_div_pow]
  omega

@[simp] theorem dfField_packCommand : dfField (packCommand opc df sf wk dc g z inst) = df := by
  have h := field_bounds opc df sf wk dc g z inst
  apply BitVec.eq_of_toNat_eq
  simp only [dfField, BitVec.extractLsb'_toNat, toNat_packCommand, Nat.shiftRight_eq_div_pow]
  omega

@[simp] theorem sfField_packCommand : sfField (packCommand opc df sf wk dc g z inst) = sf := by
  have h := field_bounds opc df sf wk dc g z inst
  apply BitVec.eq_of_toNat_eq
  simp only [sfField, BitVec.extractLsb'_toNat, toNat_packCommand, Nat.shiftRight_eq_div_pow]
  omega

@[simp] theorem wkField_packCommand : wkField (packCommand opc df sf wk dc g z inst) = wk := by
  have h := field_bounds opc df sf wk dc g z inst
  apply BitVec.eq_of_toNat_eq
  simp only [wkField, BitVec.extractLsb'_toNat, toNat_packCommand, Nat.shiftRight_eq_div_pow]
  omega

@[simp] theorem dcField_packCommand : dcField (packCommand opc df sf wk dc g z inst) = dc := by
  have h := field_bounds opc df sf wk dc g z inst
  apply BitVec.eq_of_toNat_eq
  simp only [dcField, BitVec.extractLsb'_toNat, toNat_packCommand, Nat.shiftRight_eq_div_pow]
  omega

@[simp] theorem gField_packCommand : gField (packCommand opc df sf wk dc g z inst) = g := by
  have h := field_bounds opc df sf wk dc g z inst
  apply BitVec.eq_of_toNat_eq
  simp only [gField, BitVec.extractLsb'_toNat, toNat_packCommand, Nat.shiftRight_eq_div_pow]
  omega

@[simp] theorem zField_packCommand : zField (packCommand opc df sf wk dc g z inst) = z := by
  have h := field_bounds opc df sf wk dc g z inst
  apply BitVec.eq_of_toNat_eq
  simp only [zField, BitVec.extractLsb'_toNat, toNat_packCommand, Nat.shiftRight_eq_div_pow]
  omega

@[simp] theorem instField_packCommand : instField (packCommand opc df sf wk dc g z inst) = inst := by
  have h := field_bounds opc df sf wk dc g z inst
  apply BitVec.eq_of_toNat_eq
  simp only [instField, BitVec.extractLsb'_toNat, toNat_packCommand, Nat.shiftRight_eq_div_pow]
  omega

end

/-- A command word is its fields. -/
theorem packCommand_fields (c : BitVec 32) :
    packCommand (opcField c) (dfField c) (sfField c) (wkField c) (dcField c) (gField c) (zField c) (instField c) = c := by
  have h := c.isLt
  apply BitVec.eq_of_toNat_eq
  rw [toNat_packCommand]
  simp only [opcField, dfField, sfField, wkField, dcField, gField, zField, instField, BitVec.extractLsb'_toNat,
    Nat.shiftRight_eq_div_pow]
  omega

/-- Every format is the format of its code (R82). -/
@[simp] theorem fmtOfCode_code (f : Fmt) : fmtOfCode f.code = some f := by cases f <;> rfl

/-- A code that names a format is that format's code (R82). -/
theorem code_of_fmtOfCode (c : BitVec 4) (f : Fmt) (h : fmtOfCode c = some f) : f.code = c := by
  revert c f
  decide

/-- Every Waveform Kind is the kind of its code (R83). -/
@[simp] theorem waveOfCode_code (k : Wave) : waveOfCode k.code = some k := by cases k <;> rfl

/-- A code that names a Waveform Kind is that kind's code (R83). -/
theorem code_of_waveOfCode (c : BitVec 4) (k : Wave) (h : waveOfCode c = some k) : k.code = c := by
  revert c k
  decide

/-- Every Duty Cycle is the duty of its code (R84). -/
@[simp] theorem dutyOfCode_code (d : Duty) : dutyOfCode d.code = d := by cases d <;> rfl

/-- Every code is the code of its Duty Cycle (R84). -/
@[simp] theorem code_dutyOfCode (c : BitVec 2) : (dutyOfCode c).code = c := by
  revert c
  decide

/-- A kind other than the cosine is admitted by the commands that have no cosine (R83). -/
theorem tableKindOfCode_code (k : Wave) (h : k.isSourceKind = true) : tableKindOfCode k.code = some k := by
  cases k <;> first | rfl | simp [Wave.isSourceKind] at h

/-- A code admitted by the commands that have no cosine (R83). -/
theorem tableKindOfCode_eq_some (c : BitVec 4) (k : Wave) (h : tableKindOfCode c = some k) :
    k.code = c ∧ k.isSourceKind = true := by
  revert c k
  decide

/-- Check (2) of R88, said field by field. -/
theorem unusedZero_iff (u : FieldUse) (c : BitVec 32) :
    unusedZero u c = true ↔
      (u.df = true ∨ dfField c = 0#4) ∧ (u.sf = true ∨ sfField c = 0#4) ∧ (u.wk = true ∨ wkField c = 0#4) ∧
      (u.dc = true ∨ dcField c = 0#2) ∧ (u.g = true ∨ gField c = 0#1) ∧ zField c = 0#1 ∧
      (u.inst = true ∨ instField c = 0#8) := by
  simp only [unusedZero, Bool.and_eq_true, Bool.or_eq_true, beq_iff_eq, and_assoc]

end Sys2Proof
end

