-- ==== Sys2Proof/Laws/Float.lean ====
section
/-! SUPPORT. What rounding does: it is monotone, it is exact on representable values, and the order of magnitude patterns is
the order of the values. -/

namespace Sys2Proof.Machine

/-- Rounding to an integer is within half a unit. -/
theorem roundEven_near (n d : Nat) (hd : 0 < d) :
    2 * n ≤ (2 * roundEven n d + 1) * d ∧ 2 * (roundEven n d * d) ≤ 2 * n + d := by
  have h1 := Nat.div_add_mod n d
  have h2 := Nat.mod_lt n hd
  unfold roundEven
  generalize n / d = q at *
  generalize n % d = r at *
  have e1 : (q + 1) * d = d * q + d := by ring
  have e2 : q * d = d * q := Nat.mul_comm q d
  have e3 : (2 * q + 1) * d = 2 * (d * q) + d := by ring
  have e4 : (2 * (q + 1) + 1) * d = 2 * (d * q) + 3 * d := by ring
  split
  · rw [e1, e4]
    omega
  · rw [e2, e3]
    omega

/-- Rounding to an integer gives the quotient or the next integer. -/
theorem roundEven_bounds (n d : Nat) : n / d ≤ roundEven n d ∧ roundEven n d ≤ n / d + 1 := by
  unfold roundEven
  split <;> omega

/-- Rounding to an integer is exact on integers. -/
theorem roundEven_mul (k d : Nat) (hd : 0 < d) : roundEven (k * d) d = k := by
  unfold roundEven
  simp [Nat.mul_div_cancel _ hd]
  omega

/-- Rounding to an integer is monotone. -/
theorem roundEven_mono (n n' d : Nat) (h : n ≤ n') : roundEven n d ≤ roundEven n' d := by
  have hq : n / d ≤ n' / d := Nat.div_le_div_right h
  have b1 := roundEven_bounds n d
  have b2 := roundEven_bounds n' d
  by_cases hlt : n / d < n' / d
  · omega
  · have he : n / d = n' / d := by omega
    have h1 := Nat.div_add_mod n d
    have h2 := Nat.div_add_mod n' d
    rw [he] at h1
    have hr : n % d ≤ n' % d := by omega
    unfold roundEven
    rw [he]
    split <;> split <;> omega

/-- The exponent shift of a quotient bounds it. -/
theorem shift_bounds (p q : Nat) (hp : 0 < p) :
    q < 2 ^ (Nat.log2 q - (p - 1) + p) ∧ (0 < Nat.log2 q - (p - 1) → 2 ^ (Nat.log2 q - (p - 1) + (p - 1)) ≤ q) := by
  constructor
  · refine lt_of_lt_of_le (Nat.lt_log2_self (n := q)) (Nat.pow_le_pow_right (by omega) (by omega))
  · intro h
    have hq : q ≠ 0 := by
      rintro rfl
      simp at h
    calc 2 ^ (Nat.log2 q - (p - 1) + (p - 1)) = 2 ^ Nat.log2 q := by congr 1; omega
      _ ≤ q := Nat.log2_self_le hq

/-- The pattern before it is limited to infinity. -/
def rnRaw (p n d : Nat) : Nat :=
  (Nat.log2 (n / d) - (p - 1)) * 2 ^ (p - 1) + roundEven n (d * 2 ^ (Nat.log2 (n / d) - (p - 1)))

theorem rnMag_eq (p inf n d : Nat) : rnMag p inf n d = min (rnRaw p n d) inf := rfl

/-- The rounded significand fits its binade. -/
theorem roundEven_binade (p n d : Nat) (hp : 0 < p) (hd : 0 < d) :
    roundEven n (d * 2 ^ (Nat.log2 (n / d) - (p - 1))) ≤ 2 ^ p ∧
    (0 < Nat.log2 (n / d) - (p - 1) → 2 ^ (p - 1) ≤ roundEven n (d * 2 ^ (Nat.log2 (n / d) - (p - 1)))) := by
  obtain ⟨h1, h2⟩ := shift_bounds p (n / d) hp
  generalize hs : Nat.log2 (n / d) - (p - 1) = s at *
  have hd' : 0 < d * 2 ^ s := Nat.mul_pos hd (by positivity)
  constructor
  · have h3 : n ≤ 2 ^ p * (d * 2 ^ s) := by
      have h4 : n < 2 ^ (s + p) * d := (Nat.div_lt_iff_lt_mul hd).1 h1
      rw [pow_add] at h4
      nlinarith
    calc roundEven n (d * 2 ^ s) ≤ roundEven (2 ^ p * (d * 2 ^ s)) (d * 2 ^ s) := roundEven_mono _ _ _ h3
      _ = 2 ^ p := roundEven_mul _ _ hd'
  · intro h
    have h3 : 2 ^ (p - 1) * (d * 2 ^ s) ≤ n := by
      have h4 : 2 ^ (s + (p - 1)) * d ≤ n := (Nat.le_div_iff_mul_le hd).1 (h2 h)
      rw [pow_add] at h4
      nlinarith
    calc 2 ^ (p - 1) = roundEven (2 ^ (p - 1) * (d * 2 ^ s)) (d * 2 ^ s) := (roundEven_mul _ _ hd').symm
      _ ≤ _ := roundEven_mono _ _ _ h3

/-- Rounding to a pattern is monotone in the value. -/
theorem rnRaw_mono (p n n' d : Nat) (hp : 0 < p) (hd : 0 < d) (h : n ≤ n') : rnRaw p n d ≤ rnRaw p n' d := by
  have hq : n / d ≤ n' / d := Nat.div_le_div_right h
  have hl : Nat.log2 (n / d) ≤ Nat.log2 (n' / d) := by
    rw [Nat.log2_eq_log_two, Nat.log2_eq_log_two]
    exact Nat.log_mono_right hq
  obtain ⟨a1, -⟩ := roundEven_binade p n d hp hd
  obtain ⟨-, b2⟩ := roundEven_binade p n' d hp hd
  unfold rnRaw
  generalize hs : Nat.log2 (n / d) - (p - 1) = s at *
  generalize hs' : Nat.log2 (n' / d) - (p - 1) = s' at *
  have hp2 : 2 ^ p = 2 * 2 ^ (p - 1) := by
    rw [← pow_succ']
    congr 1
    omega
  rcases Nat.lt_or_ge s s' with hss | hss
  · have h2 := b2 (by omega)
    have h3 : (s + 1) * 2 ^ (p - 1) ≤ s' * 2 ^ (p - 1) := Nat.mul_le_mul_right _ hss
    rw [Nat.add_mul] at h3
    omega
  · have he : s = s' := by omega
    subst he
    exact Nat.add_le_add_left (roundEven_mono _ _ _ h) _

/-- Rounding to a pattern is monotone in the value. -/
theorem rnMag_mono (p inf n n' d : Nat) (hp : 0 < p) (hd : 0 < d) (h : n ≤ n') :
    rnMag p inf n d ≤ rnMag p inf n' d := by
  have := rnRaw_mono p n n' d hp hd h
  rw [rnMag_eq, rnMag_eq]
  omega

/-- Rounding a representable value gives its own pattern. -/
theorem rnRaw_units (p m d : Nat) (hd : 0 < d) : rnRaw p (magUnits p m * d) d = m := by
  have hP : 0 < 2 ^ (p - 1) := by positivity
  unfold rnRaw
  rw [Nat.mul_div_cancel _ hd]
  unfold magUnits
  split
  · rename_i h0
    have hm : m < 2 ^ (p - 1) := (Nat.div_eq_zero_iff.1 h0).resolve_left hP.ne'
    have hl : Nat.log2 m - (p - 1) = 0 := by
      rcases Nat.eq_zero_or_pos m with rfl | hm0
      · simp
      · have := (Nat.log2_lt hm0.ne').2 hm
        omega
    rw [hl]
    simp [roundEven_mul m d hd]
  · rename_i h0
    generalize he : m / 2 ^ (p - 1) = e at *
    have hm := Nat.div_add_mod m (2 ^ (p - 1))
    have hf := Nat.mod_lt m hP
    rw [he] at hm
    generalize m % 2 ^ (p - 1) = f at *
    have he1 : 0 < e := Nat.pos_of_ne_zero h0
    have hl : Nat.log2 ((2 ^ (p - 1) + f) * 2 ^ (e - 1)) = p - 1 + (e - 1) := by
      rw [Nat.log2_eq_iff (by positivity)]
      constructor
      · rw [pow_add]
        exact Nat.mul_le_mul_right _ (by omega)
      · rw [show p - 1 + (e - 1) + 1 = (p - 1 + 1) + (e - 1) by omega, pow_add, pow_succ]
        exact Nat.mul_lt_mul_of_pos_right (by omega) (by positivity)
    rw [hl, show p - 1 + (e - 1) - (p - 1) = e - 1 by omega,
      show (2 ^ (p - 1) + f) * 2 ^ (e - 1) * d = (2 ^ (p - 1) + f) * (d * 2 ^ (e - 1)) by ring,
      roundEven_mul _ _ (Nat.mul_pos hd (by positivity))]
    have h5 : (e - 1) * 2 ^ (p - 1) + 2 ^ (p - 1) = 2 ^ (p - 1) * e := by
      rw [← Nat.succ_mul, Nat.succ_eq_add_one, Nat.sub_add_cancel he1, Nat.mul_comm]
    omega

/-- Rounding a representable value gives its own pattern. -/
theorem rnMag_units (p inf m d : Nat) (hd : 0 < d) (h : m ≤ inf) :
    rnMag p inf (magUnits p m * d) d = m := by
  rw [rnMag_eq, rnRaw_units p m d hd]
  omega

/-- Patterns are ordered as their values. -/
theorem magUnits_lt_iff (p m m' : Nat) (hp : 0 < p) : magUnits p m < magUnits p m' ↔ m < m' := by
  have h1 := rnRaw_units p m 1 (by omega)
  have h2 := rnRaw_units p m' 1 (by omega)
  constructor
  · intro h
    have h3 := rnRaw_mono p (magUnits p m * 1) (magUnits p m' * 1) 1 hp (by omega) (by omega)
    rcases Nat.lt_or_ge m m' with h4 | h4
    · exact h4
    · have : m = m' := by omega
      subst this
      omega
  · intro h
    by_contra h3
    have h4 := rnRaw_mono p (magUnits p m' * 1) (magUnits p m * 1) 1 hp (by omega) (by omega)
    omega

/-- Patterns are ordered as their values. -/
theorem magUnits_le_iff (p m m' : Nat) (hp : 0 < p) : magUnits p m ≤ magUnits p m' ↔ m ≤ m' := by
  have := magUnits_lt_iff p m' m hp
  omega

/-- The magnitude pattern of a packed binary32. -/
theorem mag32_pack32 (neg : Bool) (m : Nat) (h : m < 2 ^ 31) : mag32 (pack32 neg m) = m := by
  unfold mag32 pack32
  cases neg <;> simp <;> omega

/-- The sign of a packed binary32. -/
theorem sign32_pack32 (neg : Bool) (m : Nat) (h : m < 2 ^ 31) : sign32 (pack32 neg m) = neg := by
  unfold sign32 pack32
  rw [BitVec.msb_eq_decide]
  cases neg <;> simp <;> omega

/-- A binary32 is its sign and its magnitude pattern. -/
theorem pack32_sign32_mag32 (x : F32) : pack32 (sign32 x) (mag32 x) = x := by
  have hx := x.isLt
  apply BitVec.eq_of_toNat_eq
  unfold pack32 sign32 mag32
  rw [BitVec.msb_eq_decide]
  by_cases h : 2 ^ 31 ≤ x.toNat
  · simp only [show (32 - 1) = 31 by rfl, h, decide_true, if_true, BitVec.toNat_ofNat]
    omega
  · simp only [show (32 - 1) = 31 by rfl, h, decide_false, BitVec.toNat_ofNat]
    simp only [Bool.false_eq_true, if_false]
    omega

/-- A rounded magnitude is at most infinity. -/
theorem rnMag_le (p inf n d : Nat) : rnMag p inf n d ≤ inf := by
  rw [rnMag_eq]
  omega

/-- A rounded magnitude is a pattern of binary32. -/
theorem rnMag32_lt (n d : Nat) : rnMag 24 inf32 n d < 2 ^ 31 :=
  lt_of_le_of_lt (rnMag_le 24 inf32 n d) (by decide)

/-- The magnitude pattern of a rounding. -/
theorem mag32_rn32 (neg : Bool) (n d : Nat) : mag32 (rn32 neg n d) = rnMag 24 inf32 (n * 2 ^ 149) d :=
  mag32_pack32 _ _ (rnMag32_lt _ _)

/-- The sign of a rounding. -/
theorem sign32_rn32 (neg : Bool) (n d : Nat) : sign32 (rn32 neg n d) = neg := sign32_pack32 _ _ (rnMag32_lt _ _)

/-- A rounding is no NaN. -/
theorem isNaN32_rn32 (neg : Bool) (n d : Nat) : isNaN32 (rn32 neg n d) = false := by
  have := rnMag_le 24 inf32 (n * 2 ^ 149) d
  simp [isNaN32, mag32_rn32]
  omega

/-- A finite value is no NaN. -/
theorem isNaN32_of_isFin32 (x : F32) (h : isFin32 x = true) : isNaN32 x = false := by
  simp only [isFin32, isNaN32, decide_eq_true_eq, decide_eq_false_iff_not] at *
  omega

/-- Rounding a value that binary32 holds gives that value. -/
theorem rn32_units (neg : Bool) (m d : Nat) (hd : 0 < d) (hm : m < inf32) :
    rn32 neg (magUnits 24 m * d) (d * 2 ^ 149) = pack32 neg m := by
  unfold rn32
  have h : magUnits 24 m * d * 2 ^ 149 = magUnits 24 m * (d * 2 ^ 149) := by ring
  rw [h, rnMag_units 24 inf32 m _ (Nat.mul_pos hd (by positivity)) (by omega)]

/-- On finite values the order key orders as the values do. -/
theorem key32_lt_iff (x y : F32) : key32 x < key32 y ↔ int32 x < int32 y := by
  have h1 := magUnits_lt_iff 24 (mag32 x) (mag32 y) (by omega)
  have h2 := magUnits_lt_iff 24 (mag32 y) (mag32 x) (by omega)
  have h3 := magUnits_lt_iff 24 0 (mag32 x) (by omega)
  have h4 := magUnits_lt_iff 24 0 (mag32 y) (by omega)
  have h5 : magUnits 24 0 = 0 := by decide
  rw [h5] at h3 h4
  unfold key32 int32 units32
  split <;> split <;> omega

/-- The ordered comparison of finite values is the comparison of the values. -/
theorem lt32_iff (x y : F32) (hx : isFin32 x = true) (hy : isFin32 y = true) :
    lt32 x y = true ↔ int32 x < int32 y := by
  simp [lt32, isNaN32_of_isFin32 x hx, isNaN32_of_isFin32 y hy, key32_lt_iff]

/-- The ordered comparison of finite values is the comparison of the values. -/
theorem le32_iff (x y : F32) (hx : isFin32 x = true) (hy : isFin32 y = true) :
    le32 x y = true ↔ int32 x ≤ int32 y := by
  have h := key32_lt_iff y x
  simp only [le32, isNaN32_of_isFin32 x hx, isNaN32_of_isFin32 y hy, Bool.not_false, Bool.true_and, decide_eq_true_eq]
  omega

/-- The signed numerator of a rounding. -/
def signedNum (neg : Bool) (n : Nat) : Int := if neg then -(n : Int) else (n : Int)

/-- A real at most a finite value rounds to at most that value. -/
theorem key32_rn32_le (neg : Bool) (n d : Nat) (z : F32) (hd : 0 < d) (hz : isFin32 z = true)
    (h : signedNum neg n * 2 ^ 149 ≤ int32 z * d) : key32 (rn32 neg n d) ≤ key32 z := by
  have hz' : mag32 z ≤ inf32 := by
    simp only [isFin32, decide_eq_true_eq] at hz
    omega
  have e1 := rnMag_units 24 inf32 (mag32 z) d hd hz'
  have e0 : magUnits 24 0 = 0 := by decide
  have e2 := rnMag_units 24 inf32 0 d hd (by omega)
  have hm := magUnits_le_iff 24 (mag32 z) 0 (by omega)
  rw [e0] at e2 hm
  unfold key32
  rw [sign32_rn32, mag32_rn32]
  unfold int32 units32 signedNum at h
  cases neg
  · simp only [Bool.false_eq_true, if_false] at h ⊢
    split at h
    · have h1 : magUnits 24 (mag32 z) = 0 ∧ n = 0 := by
        have : (0 : Int) ≤ (magUnits 24 (mag32 z) : Int) * d := by positivity
        constructor
        · by_contra hne
          have : (0 : Int) < (magUnits 24 (mag32 z) : Int) * d := by
            have : 0 < magUnits 24 (mag32 z) := Nat.pos_of_ne_zero hne
            positivity
          nlinarith
        · by_contra hne
          have : (0 : Int) < (n : Int) * 2 ^ 149 := by
            have : 0 < n := Nat.pos_of_ne_zero hne
            positivity
          nlinarith
      have h2 : mag32 z = 0 := by
        have := hm.1 (by omega)
        omega
      rw [h1.2]
      simp_all
    · have h1 : n * 2 ^ 149 ≤ magUnits 24 (mag32 z) * d := by exact_mod_cast h
      have := rnMag_mono 24 inf32 _ _ d (by omega) hd h1
      simp_all
  · simp only [if_true] at h ⊢
    split at h
    · have h1 : magUnits 24 (mag32 z) * d ≤ n * 2 ^ 149 := by
        have : (magUnits 24 (mag32 z) : Int) * d ≤ (n : Int) * 2 ^ 149 := by linarith
        exact_mod_cast this
      have := rnMag_mono 24 inf32 _ _ d (by omega) hd h1
      simp_all
    · simp_all

/-- The magnitude of a value with the sign inverted. -/
theorem mag32_neg32 (x : F32) : mag32 (neg32 x) = mag32 x := by
  have h : (neg32 x).setWidth 31 = x.setWidth 31 := by
    apply BitVec.eq_of_getLsbD_eq
    intro i hi
    have h31 : i ≠ 31 := by omega
    simp [neg32, hi]
  have := congrArg BitVec.toNat h
  simpa [mag32] using this

/-- The sign of a value with the sign inverted. -/
theorem sign32_neg32 (x : F32) : sign32 (neg32 x) = !sign32 x := by
  have h : (0x80000000#32).msb = true := by decide
  simp only [sign32, neg32, BitVec.msb_xor, h, Bool.xor_true]

/-- The value with the sign inverted. -/
theorem int32_neg32 (x : F32) : int32 (neg32 x) = -int32 x := by
  unfold int32 units32
  rw [sign32_neg32, mag32_neg32]
  cases sign32 x <;> simp

/-- A value with the sign inverted is finite if the value is. -/
theorem isFin32_neg32 (x : F32) : isFin32 (neg32 x) = isFin32 x := by
  simp [isFin32, mag32_neg32]

/-- The order key with the sign inverted. -/
theorem key32_neg32 (x : F32) : key32 (neg32 x) = -key32 x := by
  unfold key32
  rw [sign32_neg32, mag32_neg32]
  cases sign32 x <;> simp

/-- A real at least a finite value rounds to at least that value. -/
theorem le_key32_rn32 (neg : Bool) (n d : Nat) (z : F32) (hd : 0 < d) (hz : isFin32 z = true)
    (h : int32 z * d ≤ signedNum neg n * 2 ^ 149) : key32 z ≤ key32 (rn32 neg n d) := by
  have h1 := key32_rn32_le (!neg) n d (neg32 z) hd (by rwa [isFin32_neg32]) (by
    rw [int32_neg32]
    unfold signedNum at *
    cases neg <;> simp at * <;> linarith)
  have h2 : key32 (rn32 (!neg) n d) = -key32 (rn32 neg n d) := by
    unfold key32
    rw [sign32_rn32, sign32_rn32, mag32_rn32, mag32_rn32]
    cases neg <;> simp
  rw [key32_neg32] at h1
  omega

/-- A value between two finite values is finite. -/
theorem isFin32_of_between (a x b : F32) (ha : isFin32 a = true) (hb : isFin32 b = true) (h1 : le32 a x = true)
    (h2 : le32 x b = true) : isFin32 x = true := by
  simp only [isFin32, decide_eq_true_eq, le32, Bool.and_eq_true] at *
  obtain ⟨-, h1⟩ := h1
  obtain ⟨-, h2⟩ := h2
  unfold key32 at h1 h2
  split_ifs at h1 h2 <;> omega

/-- A finite value is no infinity. -/
theorem isInf32_of_isFin32 (x : F32) (h : isFin32 x = true) : isInf32 x = false := by
  simp only [isFin32, isInf32, decide_eq_true_eq, decide_eq_false_iff_not] at *
  omega

/-- The sum of finite values is the rounding of the exact sum, and its sign is a rounding's. -/
theorem add32_finite (a b : F32) (ha : isFin32 a = true) (hb : isFin32 b = true) :
    ∃ neg, add32 a b = rn32 neg (int32 a + int32 b).natAbs (2 ^ 149) ∧
      signedNum neg (int32 a + int32 b).natAbs = int32 a + int32 b := by
  unfold add32
  simp only [isNaN32_of_isFin32 a ha, isNaN32_of_isFin32 b hb, isInf32_of_isFin32 a ha, isInf32_of_isFin32 b hb,
    Bool.or_self, Bool.false_eq_true, if_false]
  split
  · rename_i h0
    refine ⟨sign32 a && sign32 b, ?_, ?_⟩
    · rw [h0]
      have e := rn32_units (sign32 a && sign32 b) 0 1 (by omega) (by decide)
      simpa [show magUnits 24 0 = 0 by decide] using e.symm
    · rw [h0]
      cases (sign32 a && sign32 b) <;> rfl
  · refine ⟨decide (int32 a + int32 b < 0), rfl, ?_⟩
    unfold signedNum
    split
    · rename_i hneg
      have := of_decide_eq_true hneg
      omega
    · rename_i hneg
      have := of_decide_eq_false (Bool.eq_false_iff.2 hneg)
      omega

/-- The product of finite values is the rounding of the exact product. -/
theorem mul32_finite (a b : F32) (ha : isFin32 a = true) (hb : isFin32 b = true) :
    ∃ neg, mul32 a b = rn32 neg (units32 a * units32 b) (2 ^ 298) ∧
      signedNum neg (units32 a * units32 b) = int32 a * int32 b := by
  refine ⟨sign32 a != sign32 b, ?_, ?_⟩
  · simp only [mul32, isNaN32_of_isFin32 a ha, isNaN32_of_isFin32 b hb, isInf32_of_isFin32 a ha,
      isInf32_of_isFin32 b hb, Bool.or_self, Bool.false_eq_true, if_false]
  · unfold signedNum int32
    cases sign32 a <;> cases sign32 b <;> simp

/-- A finite value with magnitude pattern 0 is 0, and no other one is. -/
theorem units32_eq_zero (x : F32) : units32 x = 0 ↔ mag32 x = 0 := by
  have h1 := magUnits_lt_iff 24 0 (mag32 x) (by omega)
  have h0 : magUnits 24 0 = 0 := by decide
  rw [h0] at h1
  unfold units32
  omega

/-- The quotient of finite values is the rounding of the exact quotient, the divisor not being 0. -/
theorem div32_finite (a b : F32) (ha : isFin32 a = true) (hb : isFin32 b = true) (h0 : mag32 b ≠ 0) :
    div32 a b = rn32 (sign32 a != sign32 b) (units32 a) (units32 b) := by
  simp [div32, isNaN32_of_isFin32 a ha, isNaN32_of_isFin32 b hb, isInf32_of_isFin32 a ha, isInf32_of_isFin32 b hb, h0]

/-- A rounding that is at most a finite value by its key is at most it. -/
theorem le32_of_key32 (x z : F32) (hx : isNaN32 x = false) (hz : isNaN32 z = false) (h : key32 x ≤ key32 z) :
    le32 x z = true := by
  simp [le32, hx, hz, h]

/-- A sum at most a finite value rounds to at most that value. -/
theorem add32_le (a b z : F32) (ha : isFin32 a = true) (hb : isFin32 b = true) (hz : isFin32 z = true)
    (h : int32 a + int32 b ≤ int32 z) : le32 (add32 a b) z = true := by
  obtain ⟨neg, h1, h2⟩ := add32_finite a b ha hb
  rw [h1]
  refine le32_of_key32 _ _ (isNaN32_rn32 _ _ _) (isNaN32_of_isFin32 z hz) (key32_rn32_le _ _ _ _ (by positivity) hz ?_)
  rw [h2]
  push_cast
  exact mul_le_mul_of_nonneg_right h (by positivity)

/-- A sum at least a finite value rounds to at least that value. -/
theorem le_add32 (a b z : F32) (ha : isFin32 a = true) (hb : isFin32 b = true) (hz : isFin32 z = true)
    (h : int32 z ≤ int32 a + int32 b) : le32 z (add32 a b) = true := by
  obtain ⟨neg, h1, h2⟩ := add32_finite a b ha hb
  rw [h1]
  refine le32_of_key32 _ _ (isNaN32_of_isFin32 z hz) (isNaN32_rn32 _ _ _) (le_key32_rn32 _ _ _ _ (by positivity) hz ?_)
  rw [h2]
  push_cast
  exact mul_le_mul_of_nonneg_right h (by positivity)

/-- A product at most a finite value rounds to at most that value. -/
theorem mul32_le (a b z : F32) (ha : isFin32 a = true) (hb : isFin32 b = true) (hz : isFin32 z = true)
    (h : int32 a * int32 b ≤ int32 z * 2 ^ 149) : le32 (mul32 a b) z = true := by
  obtain ⟨neg, h1, h2⟩ := mul32_finite a b ha hb
  rw [h1]
  refine le32_of_key32 _ _ (isNaN32_rn32 _ _ _) (isNaN32_of_isFin32 z hz) (key32_rn32_le _ _ _ _ (by positivity) hz ?_)
  rw [h2]
  have := mul_le_mul_of_nonneg_right h (show (0 : Int) ≤ 2 ^ 149 by positivity)
  have e : ((2 ^ 298 : Nat) : Int) = 2 ^ 149 * 2 ^ 149 := by rw [Nat.cast_pow, ← pow_add, Nat.cast_ofNat]
  rw [e, ← mul_assoc]
  exact this

/-- A product at least a finite value rounds to at least that value. -/
theorem le_mul32 (a b z : F32) (ha : isFin32 a = true) (hb : isFin32 b = true) (hz : isFin32 z = true)
    (h : int32 z * 2 ^ 149 ≤ int32 a * int32 b) : le32 z (mul32 a b) = true := by
  obtain ⟨neg, h1, h2⟩ := mul32_finite a b ha hb
  rw [h1]
  refine le32_of_key32 _ _ (isNaN32_of_isFin32 z hz) (isNaN32_rn32 _ _ _) (le_key32_rn32 _ _ _ _ (by positivity) hz ?_)
  rw [h2]
  have := mul_le_mul_of_nonneg_right h (show (0 : Int) ≤ 2 ^ 149 by positivity)
  have e : ((2 ^ 298 : Nat) : Int) = 2 ^ 149 * 2 ^ 149 := by rw [Nat.cast_pow, ← pow_add, Nat.cast_ofNat]
  rw [e, ← mul_assoc]
  exact this

/-- A quotient by a positive divisor at most a finite value rounds to at most that value. -/
theorem div32_le (a b z : F32) (ha : isFin32 a = true) (hb : isFin32 b = true) (hz : isFin32 z = true)
    (hpos : 0 < int32 b) (h : int32 a * 2 ^ 149 ≤ int32 z * int32 b) : le32 (div32 a b) z = true := by
  have hs : sign32 b = false := by
    cases hc : sign32 b
    · rfl
    · simp only [int32, hc, if_true] at hpos
      omega
  have hu : (units32 b : Int) = int32 b := by simp [int32, hs]
  have h0 : mag32 b ≠ 0 := fun hc => by
    have := (units32_eq_zero b).2 hc
    omega
  rw [div32_finite a b ha hb h0]
  refine le32_of_key32 _ _ (isNaN32_rn32 _ _ _) (isNaN32_of_isFin32 z hz) (key32_rn32_le _ _ _ _ (by omega) hz ?_)
  have hn : signedNum (sign32 a != sign32 b) (units32 a) = int32 a := by
    rw [hs]
    unfold signedNum int32
    cases sign32 a <;> rfl
  rw [hn, hu]
  exact h

/-- A quotient by a positive divisor at least a finite value rounds to at least that value. -/
theorem le_div32 (a b z : F32) (ha : isFin32 a = true) (hb : isFin32 b = true) (hz : isFin32 z = true)
    (hpos : 0 < int32 b) (h : int32 z * int32 b ≤ int32 a * 2 ^ 149) : le32 z (div32 a b) = true := by
  have hs : sign32 b = false := by
    cases hc : sign32 b
    · rfl
    · simp only [int32, hc, if_true] at hpos
      omega
  have hu : (units32 b : Int) = int32 b := by simp [int32, hs]
  have h0 : mag32 b ≠ 0 := fun hc => by
    have := (units32_eq_zero b).2 hc
    omega
  rw [div32_finite a b ha hb h0]
  refine le32_of_key32 _ _ (isNaN32_of_isFin32 z hz) (isNaN32_rn32 _ _ _) (le_key32_rn32 _ _ _ _ (by omega) hz ?_)
  have hn : signedNum (sign32 a != sign32 b) (units32 a) = int32 a := by
    rw [hs]
    unfold signedNum int32
    cases sign32 a <;> rfl
  rw [hn, hu]
  exact h

/-- A difference at most a finite value rounds to at most that value. -/
theorem sub32_le (a b z : F32) (ha : isFin32 a = true) (hb : isFin32 b = true) (hz : isFin32 z = true)
    (h : int32 a - int32 b ≤ int32 z) : le32 (sub32 a b) z = true :=
  add32_le a (neg32 b) z ha (by rwa [isFin32_neg32]) hz (by rw [int32_neg32]; omega)

/-- A difference at least a finite value rounds to at least that value. -/
theorem le_sub32 (a b z : F32) (ha : isFin32 a = true) (hb : isFin32 b = true) (hz : isFin32 z = true)
    (h : int32 z ≤ int32 a - int32 b) : le32 z (sub32 a b) = true :=
  le_add32 a (neg32 b) z ha (by rwa [isFin32_neg32]) hz (by rw [int32_neg32]; omega)

end Sys2Proof.Machine
end

