-- ==== Sys2Proof/Laws/PerInstr.lean ====
section
/-! SUPPORT. Statements about every instruction, one lemma per constructor. `OpcodeTableRow`: the word the encoder gives has
exactly the fixed bits that the instruction's row of spec/opcode_table.json gives (30_encoding.md R91). The masks and
patterns below are copied from that table, not computed from the encoder. -/

namespace Sys2Proof.Laws.OpcodeTableRow

/-- The `mask` of the row of an instruction. -/
def rowMask : Instr → BitVec 32
  | .smpSin _ _ => 0xFF0FF3FF#32
  | .smpSaw _ _ => 0xFF0FF3FF#32
  | .smpTri _ _ => 0xFF0FF3FF#32
  | .smpSqr _ _ => 0xFF0FF3FF#32
  | .smpCos _ _ => 0xFF0FF3FF#32
  | .oscCfg _ _ _ => 0xFFFF0300#32
  | .oscNext _ _ => 0xFF0FFF00#32
  | .oscAt _ _ => 0xFF0FFF00#32
  | .tblBuild _ _ _ => 0xFFFF0300#32
  | .tblAlloc _ _ => 0xFFFF03FF#32
  | .lutBind _ => 0xFFFFFF00#32
  | .lutNext _ => 0xFFFFFF00#32
  | .lutAt _ => 0xFFFFFF00#32
  | .vsoSetMaster _ => 0xFFFFFF00#32
  | .vsoSetSlave _ => 0xFFFFFF00#32
  | .vsoSetPw _ => 0xFFFFFF00#32
  | .vsoSetShape _ => 0xFFFFFF00#32
  | .vsoSetSync _ _ => 0xFFFFFD00#32
  | .vsoTick _ => 0xFFFFFF00#32
  | .envSetAttack _ => 0xFFFFFF00#32
  | .envSetDecay _ => 0xFFFFFF00#32
  | .envSetRelease _ => 0xFFFFFF00#32
  | .envSetSustain _ => 0xFFFFFF00#32
  | .envTick _ _ => 0xFFFFFD00#32
  | .envStat _ => 0xFFFFFF00#32
  | _ => 0xFFFFFFFF#32

/-- The `match` of the row of an instruction. -/
def rowMatch : Instr → BitVec 32
  | .cvtI8I8 => 0x01000000#32
  | .cvtI8I16 => 0x01100000#32
  | .cvtI8I24 => 0x01200000#32
  | .cvtI8I32 => 0x01300000#32
  | .cvtI8I48 => 0x01400000#32
  | .cvtI8I64 => 0x01500000#32
  | .cvtI8U8 => 0x01600000#32
  | .cvtI8U16 => 0x01700000#32
  | .cvtI8U24 => 0x01800000#32
  | .cvtI8U32 => 0x01900000#32
  | .cvtI8U48 => 0x01A00000#32
  | .cvtI8U64 => 0x01B00000#32
  | .cvtI8F32 => 0x01C00000#32
  | .cvtI8F64 => 0x01D00000#32
  | .cvtI16I8 => 0x01010000#32
  | .cvtI16I16 => 0x01110000#32
  | .cvtI16I24 => 0x01210000#32
  | .cvtI16I32 => 0x01310000#32
  | .cvtI16I48 => 0x01410000#32
  | .cvtI16I64 => 0x01510000#32
  | .cvtI16U8 => 0x01610000#32
  | .cvtI16U16 => 0x01710000#32
  | .cvtI16U24 => 0x01810000#32
  | .cvtI16U32 => 0x01910000#32
  | .cvtI16U48 => 0x01A10000#32
  | .cvtI16U64 => 0x01B10000#32
  | .cvtI16F32 => 0x01C10000#32
  | .cvtI16F64 => 0x01D10000#32
  | .cvtI24I8 => 0x01020000#32
  | .cvtI24I16 => 0x01120000#32
  | .cvtI24I24 => 0x01220000#32
  | .cvtI24I32 => 0x01320000#32
  | .cvtI24I48 => 0x01420000#32
  | .cvtI24I64 => 0x01520000#32
  | .cvtI24U8 => 0x01620000#32
  | .cvtI24U16 => 0x01720000#32
  | .cvtI24U24 => 0x01820000#32
  | .cvtI24U32 => 0x01920000#32
  | .cvtI24U48 => 0x01A20000#32
  | .cvtI24U64 => 0x01B20000#32
  | .cvtI24F32 => 0x01C20000#32
  | .cvtI24F64 => 0x01D20000#32
  | .cvtI32I8 => 0x01030000#32
  | .cvtI32I16 => 0x01130000#32
  | .cvtI32I24 => 0x01230000#32
  | .cvtI32I32 => 0x01330000#32
  | .cvtI32I48 => 0x01430000#32
  | .cvtI32I64 => 0x01530000#32
  | .cvtI32U8 => 0x01630000#32
  | .cvtI32U16 => 0x01730000#32
  | .cvtI32U24 => 0x01830000#32
  | .cvtI32U32 => 0x01930000#32
  | .cvtI32U48 => 0x01A30000#32
  | .cvtI32U64 => 0x01B30000#32
  | .cvtI32F32 => 0x01C30000#32
  | .cvtI32F64 => 0x01D30000#32
  | .cvtI48I8 => 0x01040000#32
  | .cvtI48I16 => 0x01140000#32
  | .cvtI48I24 => 0x01240000#32
  | .cvtI48I32 => 0x01340000#32
  | .cvtI48I48 => 0x01440000#32
  | .cvtI48I64 => 0x01540000#32
  | .cvtI48U8 => 0x01640000#32
  | .cvtI48U16 => 0x01740000#32
  | .cvtI48U24 => 0x01840000#32
  | .cvtI48U32 => 0x01940000#32
  | .cvtI48U48 => 0x01A40000#32
  | .cvtI48U64 => 0x01B40000#32
  | .cvtI48F32 => 0x01C40000#32
  | .cvtI48F64 => 0x01D40000#32
  | .cvtI64I8 => 0x01050000#32
  | .cvtI64I16 => 0x01150000#32
  | .cvtI64I24 => 0x01250000#32
  | .cvtI64I32 => 0x01350000#32
  | .cvtI64I48 => 0x01450000#32
  | .cvtI64I64 => 0x01550000#32
  | .cvtI64U8 => 0x01650000#32
  | .cvtI64U16 => 0x01750000#32
  | .cvtI64U24 => 0x01850000#32
  | .cvtI64U32 => 0x01950000#32
  | .cvtI64U48 => 0x01A50000#32
  | .cvtI64U64 => 0x01B50000#32
  | .cvtI64F32 => 0x01C50000#32
  | .cvtI64F64 => 0x01D50000#32
  | .cvtU8I8 => 0x01060000#32
  | .cvtU8I16 => 0x01160000#32
  | .cvtU8I24 => 0x01260000#32
  | .cvtU8I32 => 0x01360000#32
  | .cvtU8I48 => 0x01460000#32
  | .cvtU8I64 => 0x01560000#32
  | .cvtU8U8 => 0x01660000#32
  | .cvtU8U16 => 0x01760000#32
  | .cvtU8U24 => 0x01860000#32
  | .cvtU8U32 => 0x01960000#32
  | .cvtU8U48 => 0x01A60000#32
  | .cvtU8U64 => 0x01B60000#32
  | .cvtU8F32 => 0x01C60000#32
  | .cvtU8F64 => 0x01D60000#32
  | .cvtU16I8 => 0x01070000#32
  | .cvtU16I16 => 0x01170000#32
  | .cvtU16I24 => 0x01270000#32
  | .cvtU16I32 => 0x01370000#32
  | .cvtU16I48 => 0x01470000#32
  | .cvtU16I64 => 0x01570000#32
  | .cvtU16U8 => 0x01670000#32
  | .cvtU16U16 => 0x01770000#32
  | .cvtU16U24 => 0x01870000#32
  | .cvtU16U32 => 0x01970000#32
  | .cvtU16U48 => 0x01A70000#32
  | .cvtU16U64 => 0x01B70000#32
  | .cvtU16F32 => 0x01C70000#32
  | .cvtU16F64 => 0x01D70000#32
  | .cvtU24I8 => 0x01080000#32
  | .cvtU24I16 => 0x01180000#32
  | .cvtU24I24 => 0x01280000#32
  | .cvtU24I32 => 0x01380000#32
  | .cvtU24I48 => 0x01480000#32
  | .cvtU24I64 => 0x01580000#32
  | .cvtU24U8 => 0x01680000#32
  | .cvtU24U16 => 0x01780000#32
  | .cvtU24U24 => 0x01880000#32
  | .cvtU24U32 => 0x01980000#32
  | .cvtU24U48 => 0x01A80000#32
  | .cvtU24U64 => 0x01B80000#32
  | .cvtU24F32 => 0x01C80000#32
  | .cvtU24F64 => 0x01D80000#32
  | .cvtU32I8 => 0x01090000#32
  | .cvtU32I16 => 0x01190000#32
  | .cvtU32I24 => 0x01290000#32
  | .cvtU32I32 => 0x01390000#32
  | .cvtU32I48 => 0x01490000#32
  | .cvtU32I64 => 0x01590000#32
  | .cvtU32U8 => 0x01690000#32
  | .cvtU32U16 => 0x01790000#32
  | .cvtU32U24 => 0x01890000#32
  | .cvtU32U32 => 0x01990000#32
  | .cvtU32U48 => 0x01A90000#32
  | .cvtU32U64 => 0x01B90000#32
  | .cvtU32F32 => 0x01C90000#32
  | .cvtU32F64 => 0x01D90000#32
  | .cvtU48I8 => 0x010A0000#32
  | .cvtU48I16 => 0x011A0000#32
  | .cvtU48I24 => 0x012A0000#32
  | .cvtU48I32 => 0x013A0000#32
  | .cvtU48I48 => 0x014A0000#32
  | .cvtU48I64 => 0x015A0000#32
  | .cvtU48U8 => 0x016A0000#32
  | .cvtU48U16 => 0x017A0000#32
  | .cvtU48U24 => 0x018A0000#32
  | .cvtU48U32 => 0x019A0000#32
  | .cvtU48U48 => 0x01AA0000#32
  | .cvtU48U64 => 0x01BA0000#32
  | .cvtU48F32 => 0x01CA0000#32
  | .cvtU48F64 => 0x01DA0000#32
  | .cvtU64I8 => 0x010B0000#32
  | .cvtU64I16 => 0x011B0000#32
  | .cvtU64I24 => 0x012B0000#32
  | .cvtU64I32 => 0x013B0000#32
  | .cvtU64I48 => 0x014B0000#32
  | .cvtU64I64 => 0x015B0000#32
  | .cvtU64U8 => 0x016B0000#32
  | .cvtU64U16 => 0x017B0000#32
  | .cvtU64U24 => 0x018B0000#32
  | .cvtU64U32 => 0x019B0000#32
  | .cvtU64U48 => 0x01AB0000#32
  | .cvtU64U64 => 0x01BB0000#32
  | .cvtU64F32 => 0x01CB0000#32
  | .cvtU64F64 => 0x01DB0000#32
  | .cvtF32I8 => 0x010C0000#32
  | .cvtF32I16 => 0x011C0000#32
  | .cvtF32I24 => 0x012C0000#32
  | .cvtF32I32 => 0x013C0000#32
  | .cvtF32I48 => 0x014C0000#32
  | .cvtF32I64 => 0x015C0000#32
  | .cvtF32U8 => 0x016C0000#32
  | .cvtF32U16 => 0x017C0000#32
  | .cvtF32U24 => 0x018C0000#32
  | .cvtF32U32 => 0x019C0000#32
  | .cvtF32U48 => 0x01AC0000#32
  | .cvtF32U64 => 0x01BC0000#32
  | .cvtF32F32 => 0x01CC0000#32
  | .cvtF32F64 => 0x01DC0000#32
  | .cvtF64I8 => 0x010D0000#32
  | .cvtF64I16 => 0x011D0000#32
  | .cvtF64I24 => 0x012D0000#32
  | .cvtF64I32 => 0x013D0000#32
  | .cvtF64I48 => 0x014D0000#32
  | .cvtF64I64 => 0x015D0000#32
  | .cvtF64U8 => 0x016D0000#32
  | .cvtF64U16 => 0x017D0000#32
  | .cvtF64U24 => 0x018D0000#32
  | .cvtF64U32 => 0x019D0000#32
  | .cvtF64U48 => 0x01AD0000#32
  | .cvtF64U64 => 0x01BD0000#32
  | .cvtF64F32 => 0x01CD0000#32
  | .cvtF64F64 => 0x01DD0000#32
  | .smpSin _ _ => 0x10000000#32
  | .smpSaw _ _ => 0x10001000#32
  | .smpTri _ _ => 0x10002000#32
  | .smpSqr _ _ => 0x10003000#32
  | .smpCos _ _ => 0x10004000#32
  | .oscCfg _ _ _ => 0x11000000#32
  | .oscNext _ _ => 0x12000000#32
  | .oscAt _ _ => 0x13000000#32
  | .tblBuild _ _ _ => 0x18000000#32
  | .tblAlloc _ _ => 0x19000000#32
  | .lutBind _ => 0x1A000000#32
  | .lutNext _ => 0x1B000000#32
  | .lutAt _ => 0x1C000000#32
  | .vsoSetMaster _ => 0x20000000#32
  | .vsoSetSlave _ => 0x21000000#32
  | .vsoSetPw _ => 0x22000000#32
  | .vsoSetShape _ => 0x23000000#32
  | .vsoSetSync _ _ => 0x24000000#32
  | .vsoTick _ => 0x25000000#32
  | .envSetAttack _ => 0x30000000#32
  | .envSetDecay _ => 0x31000000#32
  | .envSetRelease _ => 0x32000000#32
  | .envSetSustain _ => 0x33000000#32
  | .envTick _ _ => 0x34000000#32
  | .envStat _ => 0x35000000#32

/-- The encoded word matches the instruction's row of the table. -/
def Statement (i : Instr) : Prop := encode i &&& rowMask i = rowMatch i

/-- Conjunction goes through concatenation. -/
theorem append_and_append {m n : Nat} (x x' : BitVec m) (y y' : BitVec n) :
    (x ++ y) &&& (x' ++ y') = (x &&& x') ++ (y &&& y') := by
  apply BitVec.eq_of_getLsbD_eq
  intro i _
  simp only [BitVec.getLsbD_and, BitVec.getLsbD_append]
  split <;> simp

/-- A packed word under a packed mask, field by field. -/
theorem packCommand_and (a a' : BitVec 8) (b b' c c' d d' : BitVec 4) (e e' : BitVec 2) (f f' g g' : BitVec 1)
    (h h' : BitVec 8) :
    packCommand a b c d e f g h &&& packCommand a' b' c' d' e' f' g' h' =
      packCommand (a &&& a') (b &&& b') (c &&& c') (d &&& d') (e &&& e') (f &&& f') (g &&& g') (h &&& h') := by
  unfold packCommand
  refine (append_and_append _ _ _ _).trans (congrArg (· ++ (h &&& h')) ?_)
  refine (append_and_append _ _ _ _).trans (congrArg (· ++ (g &&& g')) ?_)
  refine (append_and_append _ _ _ _).trans (congrArg (· ++ (f &&& f')) ?_)
  refine (append_and_append _ _ _ _).trans (congrArg (· ++ (e &&& e')) ?_)
  refine (append_and_append _ _ _ _).trans (congrArg (· ++ (d &&& d')) ?_)
  refine (append_and_append _ _ _ _).trans (congrArg (· ++ (c &&& c')) ?_)
  exact append_and_append _ _ _ _

theorem cvtI8I8 : Statement .cvtI8I8 := rfl
theorem cvtI8I16 : Statement .cvtI8I16 := rfl
theorem cvtI8I24 : Statement .cvtI8I24 := rfl
theorem cvtI8I32 : Statement .cvtI8I32 := rfl
theorem cvtI8I48 : Statement .cvtI8I48 := rfl
theorem cvtI8I64 : Statement .cvtI8I64 := rfl
theorem cvtI8U8 : Statement .cvtI8U8 := rfl
theorem cvtI8U16 : Statement .cvtI8U16 := rfl
theorem cvtI8U24 : Statement .cvtI8U24 := rfl
theorem cvtI8U32 : Statement .cvtI8U32 := rfl
theorem cvtI8U48 : Statement .cvtI8U48 := rfl
theorem cvtI8U64 : Statement .cvtI8U64 := rfl
theorem cvtI8F32 : Statement .cvtI8F32 := rfl
theorem cvtI8F64 : Statement .cvtI8F64 := rfl
theorem cvtI16I8 : Statement .cvtI16I8 := rfl
theorem cvtI16I16 : Statement .cvtI16I16 := rfl
theorem cvtI16I24 : Statement .cvtI16I24 := rfl
theorem cvtI16I32 : Statement .cvtI16I32 := rfl
theorem cvtI16I48 : Statement .cvtI16I48 := rfl
theorem cvtI16I64 : Statement .cvtI16I64 := rfl
theorem cvtI16U8 : Statement .cvtI16U8 := rfl
theorem cvtI16U16 : Statement .cvtI16U16 := rfl
theorem cvtI16U24 : Statement .cvtI16U24 := rfl
theorem cvtI16U32 : Statement .cvtI16U32 := rfl
theorem cvtI16U48 : Statement .cvtI16U48 := rfl
theorem cvtI16U64 : Statement .cvtI16U64 := rfl
theorem cvtI16F32 : Statement .cvtI16F32 := rfl
theorem cvtI16F64 : Statement .cvtI16F64 := rfl
theorem cvtI24I8 : Statement .cvtI24I8 := rfl
theorem cvtI24I16 : Statement .cvtI24I16 := rfl
theorem cvtI24I24 : Statement .cvtI24I24 := rfl
theorem cvtI24I32 : Statement .cvtI24I32 := rfl
theorem cvtI24I48 : Statement .cvtI24I48 := rfl
theorem cvtI24I64 : Statement .cvtI24I64 := rfl
theorem cvtI24U8 : Statement .cvtI24U8 := rfl
theorem cvtI24U16 : Statement .cvtI24U16 := rfl
theorem cvtI24U24 : Statement .cvtI24U24 := rfl
theorem cvtI24U32 : Statement .cvtI24U32 := rfl
theorem cvtI24U48 : Statement .cvtI24U48 := rfl
theorem cvtI24U64 : Statement .cvtI24U64 := rfl
theorem cvtI24F32 : Statement .cvtI24F32 := rfl
theorem cvtI24F64 : Statement .cvtI24F64 := rfl
theorem cvtI32I8 : Statement .cvtI32I8 := rfl
theorem cvtI32I16 : Statement .cvtI32I16 := rfl
theorem cvtI32I24 : Statement .cvtI32I24 := rfl
theorem cvtI32I32 : Statement .cvtI32I32 := rfl
theorem cvtI32I48 : Statement .cvtI32I48 := rfl
theorem cvtI32I64 : Statement .cvtI32I64 := rfl
theorem cvtI32U8 : Statement .cvtI32U8 := rfl
theorem cvtI32U16 : Statement .cvtI32U16 := rfl
theorem cvtI32U24 : Statement .cvtI32U24 := rfl
theorem cvtI32U32 : Statement .cvtI32U32 := rfl
theorem cvtI32U48 : Statement .cvtI32U48 := rfl
theorem cvtI32U64 : Statement .cvtI32U64 := rfl
theorem cvtI32F32 : Statement .cvtI32F32 := rfl
theorem cvtI32F64 : Statement .cvtI32F64 := rfl
theorem cvtI48I8 : Statement .cvtI48I8 := rfl
theorem cvtI48I16 : Statement .cvtI48I16 := rfl
theorem cvtI48I24 : Statement .cvtI48I24 := rfl
theorem cvtI48I32 : Statement .cvtI48I32 := rfl
theorem cvtI48I48 : Statement .cvtI48I48 := rfl
theorem cvtI48I64 : Statement .cvtI48I64 := rfl
theorem cvtI48U8 : Statement .cvtI48U8 := rfl
theorem cvtI48U16 : Statement .cvtI48U16 := rfl
theorem cvtI48U24 : Statement .cvtI48U24 := rfl
theorem cvtI48U32 : Statement .cvtI48U32 := rfl
theorem cvtI48U48 : Statement .cvtI48U48 := rfl
theorem cvtI48U64 : Statement .cvtI48U64 := rfl
theorem cvtI48F32 : Statement .cvtI48F32 := rfl
theorem cvtI48F64 : Statement .cvtI48F64 := rfl
theorem cvtI64I8 : Statement .cvtI64I8 := rfl
theorem cvtI64I16 : Statement .cvtI64I16 := rfl
theorem cvtI64I24 : Statement .cvtI64I24 := rfl
theorem cvtI64I32 : Statement .cvtI64I32 := rfl
theorem cvtI64I48 : Statement .cvtI64I48 := rfl
theorem cvtI64I64 : Statement .cvtI64I64 := rfl
theorem cvtI64U8 : Statement .cvtI64U8 := rfl
theorem cvtI64U16 : Statement .cvtI64U16 := rfl
theorem cvtI64U24 : Statement .cvtI64U24 := rfl
theorem cvtI64U32 : Statement .cvtI64U32 := rfl
theorem cvtI64U48 : Statement .cvtI64U48 := rfl
theorem cvtI64U64 : Statement .cvtI64U64 := rfl
theorem cvtI64F32 : Statement .cvtI64F32 := rfl
theorem cvtI64F64 : Statement .cvtI64F64 := rfl
theorem cvtU8I8 : Statement .cvtU8I8 := rfl
theorem cvtU8I16 : Statement .cvtU8I16 := rfl
theorem cvtU8I24 : Statement .cvtU8I24 := rfl
theorem cvtU8I32 : Statement .cvtU8I32 := rfl
theorem cvtU8I48 : Statement .cvtU8I48 := rfl
theorem cvtU8I64 : Statement .cvtU8I64 := rfl
theorem cvtU8U8 : Statement .cvtU8U8 := rfl
theorem cvtU8U16 : Statement .cvtU8U16 := rfl
theorem cvtU8U24 : Statement .cvtU8U24 := rfl
theorem cvtU8U32 : Statement .cvtU8U32 := rfl
theorem cvtU8U48 : Statement .cvtU8U48 := rfl
theorem cvtU8U64 : Statement .cvtU8U64 := rfl
theorem cvtU8F32 : Statement .cvtU8F32 := rfl
theorem cvtU8F64 : Statement .cvtU8F64 := rfl
theorem cvtU16I8 : Statement .cvtU16I8 := rfl
theorem cvtU16I16 : Statement .cvtU16I16 := rfl
theorem cvtU16I24 : Statement .cvtU16I24 := rfl
theorem cvtU16I32 : Statement .cvtU16I32 := rfl
theorem cvtU16I48 : Statement .cvtU16I48 := rfl
theorem cvtU16I64 : Statement .cvtU16I64 := rfl
theorem cvtU16U8 : Statement .cvtU16U8 := rfl
theorem cvtU16U16 : Statement .cvtU16U16 := rfl
theorem cvtU16U24 : Statement .cvtU16U24 := rfl
theorem cvtU16U32 : Statement .cvtU16U32 := rfl
theorem cvtU16U48 : Statement .cvtU16U48 := rfl
theorem cvtU16U64 : Statement .cvtU16U64 := rfl
theorem cvtU16F32 : Statement .cvtU16F32 := rfl
theorem cvtU16F64 : Statement .cvtU16F64 := rfl
theorem cvtU24I8 : Statement .cvtU24I8 := rfl
theorem cvtU24I16 : Statement .cvtU24I16 := rfl
theorem cvtU24I24 : Statement .cvtU24I24 := rfl
theorem cvtU24I32 : Statement .cvtU24I32 := rfl
theorem cvtU24I48 : Statement .cvtU24I48 := rfl
theorem cvtU24I64 : Statement .cvtU24I64 := rfl
theorem cvtU24U8 : Statement .cvtU24U8 := rfl
theorem cvtU24U16 : Statement .cvtU24U16 := rfl
theorem cvtU24U24 : Statement .cvtU24U24 := rfl
theorem cvtU24U32 : Statement .cvtU24U32 := rfl
theorem cvtU24U48 : Statement .cvtU24U48 := rfl
theorem cvtU24U64 : Statement .cvtU24U64 := rfl
theorem cvtU24F32 : Statement .cvtU24F32 := rfl
theorem cvtU24F64 : Statement .cvtU24F64 := rfl
theorem cvtU32I8 : Statement .cvtU32I8 := rfl
theorem cvtU32I16 : Statement .cvtU32I16 := rfl
theorem cvtU32I24 : Statement .cvtU32I24 := rfl
theorem cvtU32I32 : Statement .cvtU32I32 := rfl
theorem cvtU32I48 : Statement .cvtU32I48 := rfl
theorem cvtU32I64 : Statement .cvtU32I64 := rfl
theorem cvtU32U8 : Statement .cvtU32U8 := rfl
theorem cvtU32U16 : Statement .cvtU32U16 := rfl
theorem cvtU32U24 : Statement .cvtU32U24 := rfl
theorem cvtU32U32 : Statement .cvtU32U32 := rfl
theorem cvtU32U48 : Statement .cvtU32U48 := rfl
theorem cvtU32U64 : Statement .cvtU32U64 := rfl
theorem cvtU32F32 : Statement .cvtU32F32 := rfl
theorem cvtU32F64 : Statement .cvtU32F64 := rfl
theorem cvtU48I8 : Statement .cvtU48I8 := rfl
theorem cvtU48I16 : Statement .cvtU48I16 := rfl
theorem cvtU48I24 : Statement .cvtU48I24 := rfl
theorem cvtU48I32 : Statement .cvtU48I32 := rfl
theorem cvtU48I48 : Statement .cvtU48I48 := rfl
theorem cvtU48I64 : Statement .cvtU48I64 := rfl
theorem cvtU48U8 : Statement .cvtU48U8 := rfl
theorem cvtU48U16 : Statement .cvtU48U16 := rfl
theorem cvtU48U24 : Statement .cvtU48U24 := rfl
theorem cvtU48U32 : Statement .cvtU48U32 := rfl
theorem cvtU48U48 : Statement .cvtU48U48 := rfl
theorem cvtU48U64 : Statement .cvtU48U64 := rfl
theorem cvtU48F32 : Statement .cvtU48F32 := rfl
theorem cvtU48F64 : Statement .cvtU48F64 := rfl
theorem cvtU64I8 : Statement .cvtU64I8 := rfl
theorem cvtU64I16 : Statement .cvtU64I16 := rfl
theorem cvtU64I24 : Statement .cvtU64I24 := rfl
theorem cvtU64I32 : Statement .cvtU64I32 := rfl
theorem cvtU64I48 : Statement .cvtU64I48 := rfl
theorem cvtU64I64 : Statement .cvtU64I64 := rfl
theorem cvtU64U8 : Statement .cvtU64U8 := rfl
theorem cvtU64U16 : Statement .cvtU64U16 := rfl
theorem cvtU64U24 : Statement .cvtU64U24 := rfl
theorem cvtU64U32 : Statement .cvtU64U32 := rfl
theorem cvtU64U48 : Statement .cvtU64U48 := rfl
theorem cvtU64U64 : Statement .cvtU64U64 := rfl
theorem cvtU64F32 : Statement .cvtU64F32 := rfl
theorem cvtU64F64 : Statement .cvtU64F64 := rfl
theorem cvtF32I8 : Statement .cvtF32I8 := rfl
theorem cvtF32I16 : Statement .cvtF32I16 := rfl
theorem cvtF32I24 : Statement .cvtF32I24 := rfl
theorem cvtF32I32 : Statement .cvtF32I32 := rfl
theorem cvtF32I48 : Statement .cvtF32I48 := rfl
theorem cvtF32I64 : Statement .cvtF32I64 := rfl
theorem cvtF32U8 : Statement .cvtF32U8 := rfl
theorem cvtF32U16 : Statement .cvtF32U16 := rfl
theorem cvtF32U24 : Statement .cvtF32U24 := rfl
theorem cvtF32U32 : Statement .cvtF32U32 := rfl
theorem cvtF32U48 : Statement .cvtF32U48 := rfl
theorem cvtF32U64 : Statement .cvtF32U64 := rfl
theorem cvtF32F32 : Statement .cvtF32F32 := rfl
theorem cvtF32F64 : Statement .cvtF32F64 := rfl
theorem cvtF64I8 : Statement .cvtF64I8 := rfl
theorem cvtF64I16 : Statement .cvtF64I16 := rfl
theorem cvtF64I24 : Statement .cvtF64I24 := rfl
theorem cvtF64I32 : Statement .cvtF64I32 := rfl
theorem cvtF64I48 : Statement .cvtF64I48 := rfl
theorem cvtF64I64 : Statement .cvtF64I64 := rfl
theorem cvtF64U8 : Statement .cvtF64U8 := rfl
theorem cvtF64U16 : Statement .cvtF64U16 := rfl
theorem cvtF64U24 : Statement .cvtF64U24 := rfl
theorem cvtF64U32 : Statement .cvtF64U32 := rfl
theorem cvtF64U48 : Statement .cvtF64U48 := rfl
theorem cvtF64U64 : Statement .cvtF64U64 := rfl
theorem cvtF64F32 : Statement .cvtF64F32 := rfl
theorem cvtF64F64 : Statement .cvtF64F64 := rfl
theorem smpSin (df : Fmt) (dc : Duty) : Statement (.smpSin df dc) := by
  show encode (.smpSin df dc) &&& 0xFF0FF3FF#32 = 0x10000000#32
  rw [show (0xFF0FF3FF#32 : BitVec 32) = packCommand 255#8 0#4 15#4 15#4 0#2 1#1 1#1 255#8 by decide,
    show (0x10000000#32 : BitVec 32) = packCommand 16#8 0#4 0#4 0#4 0#2 0#1 0#1 0#8 by decide]
  simp [encode, encodeSmp, packCommand_and, Wave.code]
theorem smpSaw (df : Fmt) (dc : Duty) : Statement (.smpSaw df dc) := by
  show encode (.smpSaw df dc) &&& 0xFF0FF3FF#32 = 0x10001000#32
  rw [show (0xFF0FF3FF#32 : BitVec 32) = packCommand 255#8 0#4 15#4 15#4 0#2 1#1 1#1 255#8 by decide,
    show (0x10001000#32 : BitVec 32) = packCommand 16#8 0#4 0#4 1#4 0#2 0#1 0#1 0#8 by decide]
  simp [encode, encodeSmp, packCommand_and, Wave.code]
theorem smpTri (df : Fmt) (dc : Duty) : Statement (.smpTri df dc) := by
  show encode (.smpTri df dc) &&& 0xFF0FF3FF#32 = 0x10002000#32
  rw [show (0xFF0FF3FF#32 : BitVec 32) = packCommand 255#8 0#4 15#4 15#4 0#2 1#1 1#1 255#8 by decide,
    show (0x10002000#32 : BitVec 32) = packCommand 16#8 0#4 0#4 2#4 0#2 0#1 0#1 0#8 by decide]
  simp [encode, encodeSmp, packCommand_and, Wave.code]
theorem smpSqr (df : Fmt) (dc : Duty) : Statement (.smpSqr df dc) := by
  show encode (.smpSqr df dc) &&& 0xFF0FF3FF#32 = 0x10003000#32
  rw [show (0xFF0FF3FF#32 : BitVec 32) = packCommand 255#8 0#4 15#4 15#4 0#2 1#1 1#1 255#8 by decide,
    show (0x10003000#32 : BitVec 32) = packCommand 16#8 0#4 0#4 3#4 0#2 0#1 0#1 0#8 by decide]
  simp [encode, encodeSmp, packCommand_and, Wave.code]
theorem smpCos (df : Fmt) (dc : Duty) : Statement (.smpCos df dc) := by
  show encode (.smpCos df dc) &&& 0xFF0FF3FF#32 = 0x10004000#32
  rw [show (0xFF0FF3FF#32 : BitVec 32) = packCommand 255#8 0#4 15#4 15#4 0#2 1#1 1#1 255#8 by decide,
    show (0x10004000#32 : BitVec 32) = packCommand 16#8 0#4 0#4 4#4 0#2 0#1 0#1 0#8 by decide]
  simp [encode, encodeSmp, packCommand_and, Wave.code]
theorem oscCfg (wk : Wave) (dc : Duty) (inst : BitVec 8) : Statement (.oscCfg wk dc inst) := by
  show encode (.oscCfg wk dc inst) &&& 0xFFFF0300#32 = 0x11000000#32
  rw [show (0xFFFF0300#32 : BitVec 32) = packCommand 255#8 15#4 15#4 0#4 0#2 1#1 1#1 0#8 by decide,
    show (0x11000000#32 : BitVec 32) = packCommand 17#8 0#4 0#4 0#4 0#2 0#1 0#1 0#8 by decide]
  simp [encode, encodeKindInst, packCommand_and]
theorem oscNext (df : Fmt) (inst : BitVec 8) : Statement (.oscNext df inst) := by
  show encode (.oscNext df inst) &&& 0xFF0FFF00#32 = 0x12000000#32
  rw [show (0xFF0FFF00#32 : BitVec 32) = packCommand 255#8 0#4 15#4 15#4 3#2 1#1 1#1 0#8 by decide,
    show (0x12000000#32 : BitVec 32) = packCommand 18#8 0#4 0#4 0#4 0#2 0#1 0#1 0#8 by decide]
  simp [encode, encodeFmtInst, packCommand_and]
theorem oscAt (df : Fmt) (inst : BitVec 8) : Statement (.oscAt df inst) := by
  show encode (.oscAt df inst) &&& 0xFF0FFF00#32 = 0x13000000#32
  rw [show (0xFF0FFF00#32 : BitVec 32) = packCommand 255#8 0#4 15#4 15#4 3#2 1#1 1#1 0#8 by decide,
    show (0x13000000#32 : BitVec 32) = packCommand 19#8 0#4 0#4 0#4 0#2 0#1 0#1 0#8 by decide]
  simp [encode, encodeFmtInst, packCommand_and]
theorem tblBuild (wk : Wave) (dc : Duty) (inst : BitVec 8) : Statement (.tblBuild wk dc inst) := by
  show encode (.tblBuild wk dc inst) &&& 0xFFFF0300#32 = 0x18000000#32
  rw [show (0xFFFF0300#32 : BitVec 32) = packCommand 255#8 15#4 15#4 0#4 0#2 1#1 1#1 0#8 by decide,
    show (0x18000000#32 : BitVec 32) = packCommand 24#8 0#4 0#4 0#4 0#2 0#1 0#1 0#8 by decide]
  simp [encode, encodeKindInst, packCommand_and]
theorem tblAlloc (wk : Wave) (dc : Duty) : Statement (.tblAlloc wk dc) := by
  show encode (.tblAlloc wk dc) &&& 0xFFFF03FF#32 = 0x19000000#32
  rw [show (0xFFFF03FF#32 : BitVec 32) = packCommand 255#8 15#4 15#4 0#4 0#2 1#1 1#1 255#8 by decide,
    show (0x19000000#32 : BitVec 32) = packCommand 25#8 0#4 0#4 0#4 0#2 0#1 0#1 0#8 by decide]
  simp [encode, encodeKindInst, packCommand_and]
theorem lutBind (inst : BitVec 8) : Statement (.lutBind inst) := by
  show encode (.lutBind inst) &&& 0xFFFFFF00#32 = 0x1A000000#32
  rw [show (0xFFFFFF00#32 : BitVec 32) = packCommand 255#8 15#4 15#4 15#4 3#2 1#1 1#1 0#8 by decide,
    show (0x1A000000#32 : BitVec 32) = packCommand 26#8 0#4 0#4 0#4 0#2 0#1 0#1 0#8 by decide]
  simp [encode, encodeInst, packCommand_and]
theorem lutNext (inst : BitVec 8) : Statement (.lutNext inst) := by
  show encode (.lutNext inst) &&& 0xFFFFFF00#32 = 0x1B000000#32
  rw [show (0xFFFFFF00#32 : BitVec 32) = packCommand 255#8 15#4 15#4 15#4 3#2 1#1 1#1 0#8 by decide,
    show (0x1B000000#32 : BitVec 32) = packCommand 27#8 0#4 0#4 0#4 0#2 0#1 0#1 0#8 by decide]
  simp [encode, encodeInst, packCommand_and]
theorem lutAt (inst : BitVec 8) : Statement (.lutAt inst) := by
  show encode (.lutAt inst) &&& 0xFFFFFF00#32 = 0x1C000000#32
  rw [show (0xFFFFFF00#32 : BitVec 32) = packCommand 255#8 15#4 15#4 15#4 3#2 1#1 1#1 0#8 by decide,
    show (0x1C000000#32 : BitVec 32) = packCommand 28#8 0#4 0#4 0#4 0#2 0#1 0#1 0#8 by decide]
  simp [encode, encodeInst, packCommand_and]
theorem vsoSetMaster (inst : BitVec 8) : Statement (.vsoSetMaster inst) := by
  show encode (.vsoSetMaster inst) &&& 0xFFFFFF00#32 = 0x20000000#32
  rw [show (0xFFFFFF00#32 : BitVec 32) = packCommand 255#8 15#4 15#4 15#4 3#2 1#1 1#1 0#8 by decide,
    show (0x20000000#32 : BitVec 32) = packCommand 32#8 0#4 0#4 0#4 0#2 0#1 0#1 0#8 by decide]
  simp [encode, encodeInst, packCommand_and]
theorem vsoSetSlave (inst : BitVec 8) : Statement (.vsoSetSlave inst) := by
  show encode (.vsoSetSlave inst) &&& 0xFFFFFF00#32 = 0x21000000#32
  rw [show (0xFFFFFF00#32 : BitVec 32) = packCommand 255#8 15#4 15#4 15#4 3#2 1#1 1#1 0#8 by decide,
    show (0x21000000#32 : BitVec 32) = packCommand 33#8 0#4 0#4 0#4 0#2 0#1 0#1 0#8 by decide]
  simp [encode, encodeInst, packCommand_and]
theorem vsoSetPw (inst : BitVec 8) : Statement (.vsoSetPw inst) := by
  show encode (.vsoSetPw inst) &&& 0xFFFFFF00#32 = 0x22000000#32
  rw [show (0xFFFFFF00#32 : BitVec 32) = packCommand 255#8 15#4 15#4 15#4 3#2 1#1 1#1 0#8 by decide,
    show (0x22000000#32 : BitVec 32) = packCommand 34#8 0#4 0#4 0#4 0#2 0#1 0#1 0#8 by decide]
  simp [encode, encodeInst, packCommand_and]
theorem vsoSetShape (inst : BitVec 8) : Statement (.vsoSetShape inst) := by
  show encode (.vsoSetShape inst) &&& 0xFFFFFF00#32 = 0x23000000#32
  rw [show (0xFFFFFF00#32 : BitVec 32) = packCommand 255#8 15#4 15#4 15#4 3#2 1#1 1#1 0#8 by decide,
    show (0x23000000#32 : BitVec 32) = packCommand 35#8 0#4 0#4 0#4 0#2 0#1 0#1 0#8 by decide]
  simp [encode, encodeInst, packCommand_and]
theorem vsoSetSync (g : Bool) (inst : BitVec 8) : Statement (.vsoSetSync g inst) := by
  show encode (.vsoSetSync g inst) &&& 0xFFFFFD00#32 = 0x24000000#32
  rw [show (0xFFFFFD00#32 : BitVec 32) = packCommand 255#8 15#4 15#4 15#4 3#2 0#1 1#1 0#8 by decide,
    show (0x24000000#32 : BitVec 32) = packCommand 36#8 0#4 0#4 0#4 0#2 0#1 0#1 0#8 by decide]
  simp [encode, encodeBoolInst, packCommand_and]
theorem vsoTick (inst : BitVec 8) : Statement (.vsoTick inst) := by
  show encode (.vsoTick inst) &&& 0xFFFFFF00#32 = 0x25000000#32
  rw [show (0xFFFFFF00#32 : BitVec 32) = packCommand 255#8 15#4 15#4 15#4 3#2 1#1 1#1 0#8 by decide,
    show (0x25000000#32 : BitVec 32) = packCommand 37#8 0#4 0#4 0#4 0#2 0#1 0#1 0#8 by decide]
  simp [encode, encodeInst, packCommand_and]
theorem envSetAttack (inst : BitVec 8) : Statement (.envSetAttack inst) := by
  show encode (.envSetAttack inst) &&& 0xFFFFFF00#32 = 0x30000000#32
  rw [show (0xFFFFFF00#32 : BitVec 32) = packCommand 255#8 15#4 15#4 15#4 3#2 1#1 1#1 0#8 by decide,
    show (0x30000000#32 : BitVec 32) = packCommand 48#8 0#4 0#4 0#4 0#2 0#1 0#1 0#8 by decide]
  simp [encode, encodeInst, packCommand_and]
theorem envSetDecay (inst : BitVec 8) : Statement (.envSetDecay inst) := by
  show encode (.envSetDecay inst) &&& 0xFFFFFF00#32 = 0x31000000#32
  rw [show (0xFFFFFF00#32 : BitVec 32) = packCommand 255#8 15#4 15#4 15#4 3#2 1#1 1#1 0#8 by decide,
    show (0x31000000#32 : BitVec 32) = packCommand 49#8 0#4 0#4 0#4 0#2 0#1 0#1 0#8 by decide]
  simp [encode, encodeInst, packCommand_and]
theorem envSetRelease (inst : BitVec 8) : Statement (.envSetRelease inst) := by
  show encode (.envSetRelease inst) &&& 0xFFFFFF00#32 = 0x32000000#32
  rw [show (0xFFFFFF00#32 : BitVec 32) = packCommand 255#8 15#4 15#4 15#4 3#2 1#1 1#1 0#8 by decide,
    show (0x32000000#32 : BitVec 32) = packCommand 50#8 0#4 0#4 0#4 0#2 0#1 0#1 0#8 by decide]
  simp [encode, encodeInst, packCommand_and]
theorem envSetSustain (inst : BitVec 8) : Statement (.envSetSustain inst) := by
  show encode (.envSetSustain inst) &&& 0xFFFFFF00#32 = 0x33000000#32
  rw [show (0xFFFFFF00#32 : BitVec 32) = packCommand 255#8 15#4 15#4 15#4 3#2 1#1 1#1 0#8 by decide,
    show (0x33000000#32 : BitVec 32) = packCommand 51#8 0#4 0#4 0#4 0#2 0#1 0#1 0#8 by decide]
  simp [encode, encodeInst, packCommand_and]
theorem envTick (g : Bool) (inst : BitVec 8) : Statement (.envTick g inst) := by
  show encode (.envTick g inst) &&& 0xFFFFFD00#32 = 0x34000000#32
  rw [show (0xFFFFFD00#32 : BitVec 32) = packCommand 255#8 15#4 15#4 15#4 3#2 0#1 1#1 0#8 by decide,
    show (0x34000000#32 : BitVec 32) = packCommand 52#8 0#4 0#4 0#4 0#2 0#1 0#1 0#8 by decide]
  simp [encode, encodeBoolInst, packCommand_and]
theorem envStat (inst : BitVec 8) : Statement (.envStat inst) := by
  show encode (.envStat inst) &&& 0xFFFFFF00#32 = 0x35000000#32
  rw [show (0xFFFFFF00#32 : BitVec 32) = packCommand 255#8 15#4 15#4 15#4 3#2 1#1 1#1 0#8 by decide,
    show (0x35000000#32 : BitVec 32) = packCommand 53#8 0#4 0#4 0#4 0#2 0#1 0#1 0#8 by decide]
  simp [encode, encodeInst, packCommand_and]

end Sys2Proof.Laws.OpcodeTableRow
end

