-- ==== Sys2Proof/Tests/Slice0.lean ====
section
/-! SUPPORT. Tests: the checks of WellFormed, the decoding of words written out from the spec, worked examples and vectors of
the spec (each names its source), and for every statement with hypotheses a state and operands that meet them. -/

namespace Sys2Proof.Tests

set_option Elab.async false

open Sys2Proof.Machine

/-! ## Helpers -/

/-- The next state of an outcome. -/
def nextOf : Result → Option State
  | .next t => some t
  | .fault _ => none
  | .refused _ => none

/-- The refusal of an outcome. -/
def refusalOf : Result → Option Refusal
  | .next _ => none
  | .fault _ => none
  | .refused r => some r

/-- One step on a state with a command presented. -/
def run (s : State) (cmd : BitVec 32) (opa opb : Word) : Result := step (present s { cmd := cmd, opa := opa, opb := opb })

/-- The status and result of one command. -/
def answer (s : State) (cmd : BitVec 32) (opa opb : Word) : Option (Status × Word) :=
  (nextOf (run s cmd opa opb)).map fun t => (t.st, t.res)

/-- The block after reset at a sample rate. -/
def at48k : State := State.resetWith { Config.integrator with sampleRate := 48000 }

/-- The block of 95_test_vectors.md section 2.6 after reset. -/
def fresh : State := State.reset

/-- The eight words of the 1 Hz saw at SAMPLE_RATE = 8 in `I16` (R541). -/
def saw8 : List Word :=
  [0xFFFFFFFFFFFF8000#64, 0xFFFFFFFFFFFFA000#64, 0xFFFFFFFFFFFFC000#64, 0xFFFFFFFFFFFFE000#64,
   0x0000#64, 0x2000#64, 0x4000#64, 0x6000#64]

/-- One cache table built, one reader bound to it at index 7, a configured oscillator. -/
def playing : State :=
  { fresh with
    cnt := 1, tags := [{ kind := .saw, duty := .d500, freq := 0x3F800000#32 }, {}], mem := tableCells 0 saw8,
    lut := [{ bound := true, tbl := 0#32, idx := 7#32 }, {}],
    osc := [{ cfg := true, kind := .saw, duty := .d500, freq := 0x3F800000#32, phase := 0x3F600000#32 }, {}] }

/-- The same with the reader at index 0. -/
def rewound : State := { playing with lut := [{ bound := true, tbl := 0#32, idx := 0#32 }, {}] }

/-- The variable-shape oscillator of R585 before tick 0. -/
def vso585 : Vso :=
  { mfreq := 0x3E000000#32, sfreq := 0x3DCCCCCD#32, pwReq := 0x3F000000#32, shape := 0x3F800000#32, sync := true,
    wr := 0b11111#5 }

/-- The envelope of 95_test_vectors.md program P3 after the setters. -/
def envP3 : Env :=
  { level := 0x3F8147AE#32, d0a := 0x3F2F3F30#32, d0d := 0x3EC974D0#32, d0r := 0x3EC974D0#32, sus := 0x3F000000#32,
    wr := 0b1111#4 }

/-- `fresh` with one variable-shape oscillator and one envelope ready to tick. -/
def ready (v : Vso) (e : Env) : State := { fresh with vso := [v], env := [e] }

/-- One tick of `vso585` from its reset registers is due. -/
def ticking : State := ready vso585 envP3

/-- The same after a setter operand out of contract in each. -/
def marked : State := ready { vso585 with undef := 0b00001#5 } { envP3 with undef := 0b0001#4 }

/-! ## WellFormed: an ill-formed term for each check, refused -/

theorem test_wellFormed_refuses_cos_in_osc_cfg : (Instr.oscCfg .cos .d500 0#8).wellFormed = false := by decide
theorem test_wellFormed_refuses_cos_in_tbl_build : (Instr.tblBuild .cos .d500 0#8).wellFormed = false := by decide
theorem test_wellFormed_refuses_cos_in_tbl_alloc : (Instr.tblAlloc .cos .d500).wellFormed = false := by decide
theorem test_wellFormed_admits_cos_in_smp : (Instr.smpCos .i16 .d500).wellFormed = true := by decide

/-! ## Decoding: every command's word, written out from the opcode table (R86, R91, R116) -/

/-- The instructions the decoder reads from a list of words. -/
def decodeAll (ws : List (BitVec 32)) : List (Option Instr) := ws.map fun w => (decode w).toOption

theorem test_decode_cvt_from_i8 : decodeAll
    [0x01000000#32, 0x01100000#32, 0x01200000#32, 0x01300000#32, 0x01400000#32, 0x01500000#32, 0x01600000#32,
     0x01700000#32, 0x01800000#32, 0x01900000#32, 0x01A00000#32, 0x01B00000#32, 0x01C00000#32, 0x01D00000#32] =
    [.cvtI8I8, .cvtI8I16, .cvtI8I24, .cvtI8I32, .cvtI8I48, .cvtI8I64, .cvtI8U8,
     .cvtI8U16, .cvtI8U24, .cvtI8U32, .cvtI8U48, .cvtI8U64, .cvtI8F32, .cvtI8F64].map some := by decide

theorem test_decode_cvt_from_i16 : decodeAll
    [0x01010000#32, 0x01110000#32, 0x01210000#32, 0x01310000#32, 0x01410000#32, 0x01510000#32, 0x01610000#32,
     0x01710000#32, 0x01810000#32, 0x01910000#32, 0x01A10000#32, 0x01B10000#32, 0x01C10000#32, 0x01D10000#32] =
    [.cvtI16I8, .cvtI16I16, .cvtI16I24, .cvtI16I32, .cvtI16I48, .cvtI16I64, .cvtI16U8,
     .cvtI16U16, .cvtI16U24, .cvtI16U32, .cvtI16U48, .cvtI16U64, .cvtI16F32, .cvtI16F64].map some := by decide

theorem test_decode_cvt_from_i24 : decodeAll
    [0x01020000#32, 0x01120000#32, 0x01220000#32, 0x01320000#32, 0x01420000#32, 0x01520000#32, 0x01620000#32,
     0x01720000#32, 0x01820000#32, 0x01920000#32, 0x01A20000#32, 0x01B20000#32, 0x01C20000#32, 0x01D20000#32] =
    [.cvtI24I8, .cvtI24I16, .cvtI24I24, .cvtI24I32, .cvtI24I48, .cvtI24I64, .cvtI24U8,
     .cvtI24U16, .cvtI24U24, .cvtI24U32, .cvtI24U48, .cvtI24U64, .cvtI24F32, .cvtI24F64].map some := by decide

theorem test_decode_cvt_from_i32 : decodeAll
    [0x01030000#32, 0x01130000#32, 0x01230000#32, 0x01330000#32, 0x01430000#32, 0x01530000#32, 0x01630000#32,
     0x01730000#32, 0x01830000#32, 0x01930000#32, 0x01A30000#32, 0x01B30000#32, 0x01C30000#32, 0x01D30000#32] =
    [.cvtI32I8, .cvtI32I16, .cvtI32I24, .cvtI32I32, .cvtI32I48, .cvtI32I64, .cvtI32U8,
     .cvtI32U16, .cvtI32U24, .cvtI32U32, .cvtI32U48, .cvtI32U64, .cvtI32F32, .cvtI32F64].map some := by decide

theorem test_decode_cvt_from_i48 : decodeAll
    [0x01040000#32, 0x01140000#32, 0x01240000#32, 0x01340000#32, 0x01440000#32, 0x01540000#32, 0x01640000#32,
     0x01740000#32, 0x01840000#32, 0x01940000#32, 0x01A40000#32, 0x01B40000#32, 0x01C40000#32, 0x01D40000#32] =
    [.cvtI48I8, .cvtI48I16, .cvtI48I24, .cvtI48I32, .cvtI48I48, .cvtI48I64, .cvtI48U8,
     .cvtI48U16, .cvtI48U24, .cvtI48U32, .cvtI48U48, .cvtI48U64, .cvtI48F32, .cvtI48F64].map some := by decide

theorem test_decode_cvt_from_i64 : decodeAll
    [0x01050000#32, 0x01150000#32, 0x01250000#32, 0x01350000#32, 0x01450000#32, 0x01550000#32, 0x01650000#32,
     0x01750000#32, 0x01850000#32, 0x01950000#32, 0x01A50000#32, 0x01B50000#32, 0x01C50000#32, 0x01D50000#32] =
    [.cvtI64I8, .cvtI64I16, .cvtI64I24, .cvtI64I32, .cvtI64I48, .cvtI64I64, .cvtI64U8,
     .cvtI64U16, .cvtI64U24, .cvtI64U32, .cvtI64U48, .cvtI64U64, .cvtI64F32, .cvtI64F64].map some := by decide

theorem test_decode_cvt_from_u8 : decodeAll
    [0x01060000#32, 0x01160000#32, 0x01260000#32, 0x01360000#32, 0x01460000#32, 0x01560000#32, 0x01660000#32,
     0x01760000#32, 0x01860000#32, 0x01960000#32, 0x01A60000#32, 0x01B60000#32, 0x01C60000#32, 0x01D60000#32] =
    [.cvtU8I8, .cvtU8I16, .cvtU8I24, .cvtU8I32, .cvtU8I48, .cvtU8I64, .cvtU8U8,
     .cvtU8U16, .cvtU8U24, .cvtU8U32, .cvtU8U48, .cvtU8U64, .cvtU8F32, .cvtU8F64].map some := by decide

theorem test_decode_cvt_from_u16 : decodeAll
    [0x01070000#32, 0x01170000#32, 0x01270000#32, 0x01370000#32, 0x01470000#32, 0x01570000#32, 0x01670000#32,
     0x01770000#32, 0x01870000#32, 0x01970000#32, 0x01A70000#32, 0x01B70000#32, 0x01C70000#32, 0x01D70000#32] =
    [.cvtU16I8, .cvtU16I16, .cvtU16I24, .cvtU16I32, .cvtU16I48, .cvtU16I64, .cvtU16U8,
     .cvtU16U16, .cvtU16U24, .cvtU16U32, .cvtU16U48, .cvtU16U64, .cvtU16F32, .cvtU16F64].map some := by decide

theorem test_decode_cvt_from_u24 : decodeAll
    [0x01080000#32, 0x01180000#32, 0x01280000#32, 0x01380000#32, 0x01480000#32, 0x01580000#32, 0x01680000#32,
     0x01780000#32, 0x01880000#32, 0x01980000#32, 0x01A80000#32, 0x01B80000#32, 0x01C80000#32, 0x01D80000#32] =
    [.cvtU24I8, .cvtU24I16, .cvtU24I24, .cvtU24I32, .cvtU24I48, .cvtU24I64, .cvtU24U8,
     .cvtU24U16, .cvtU24U24, .cvtU24U32, .cvtU24U48, .cvtU24U64, .cvtU24F32, .cvtU24F64].map some := by decide

theorem test_decode_cvt_from_u32 : decodeAll
    [0x01090000#32, 0x01190000#32, 0x01290000#32, 0x01390000#32, 0x01490000#32, 0x01590000#32, 0x01690000#32,
     0x01790000#32, 0x01890000#32, 0x01990000#32, 0x01A90000#32, 0x01B90000#32, 0x01C90000#32, 0x01D90000#32] =
    [.cvtU32I8, .cvtU32I16, .cvtU32I24, .cvtU32I32, .cvtU32I48, .cvtU32I64, .cvtU32U8,
     .cvtU32U16, .cvtU32U24, .cvtU32U32, .cvtU32U48, .cvtU32U64, .cvtU32F32, .cvtU32F64].map some := by decide

theorem test_decode_cvt_from_u48 : decodeAll
    [0x010A0000#32, 0x011A0000#32, 0x012A0000#32, 0x013A0000#32, 0x014A0000#32, 0x015A0000#32, 0x016A0000#32,
     0x017A0000#32, 0x018A0000#32, 0x019A0000#32, 0x01AA0000#32, 0x01BA0000#32, 0x01CA0000#32, 0x01DA0000#32] =
    [.cvtU48I8, .cvtU48I16, .cvtU48I24, .cvtU48I32, .cvtU48I48, .cvtU48I64, .cvtU48U8,
     .cvtU48U16, .cvtU48U24, .cvtU48U32, .cvtU48U48, .cvtU48U64, .cvtU48F32, .cvtU48F64].map some := by decide

theorem test_decode_cvt_from_u64 : decodeAll
    [0x010B0000#32, 0x011B0000#32, 0x012B0000#32, 0x013B0000#32, 0x014B0000#32, 0x015B0000#32, 0x016B0000#32,
     0x017B0000#32, 0x018B0000#32, 0x019B0000#32, 0x01AB0000#32, 0x01BB0000#32, 0x01CB0000#32, 0x01DB0000#32] =
    [.cvtU64I8, .cvtU64I16, .cvtU64I24, .cvtU64I32, .cvtU64I48, .cvtU64I64, .cvtU64U8,
     .cvtU64U16, .cvtU64U24, .cvtU64U32, .cvtU64U48, .cvtU64U64, .cvtU64F32, .cvtU64F64].map some := by decide

theorem test_decode_cvt_from_f32 : decodeAll
    [0x010C0000#32, 0x011C0000#32, 0x012C0000#32, 0x013C0000#32, 0x014C0000#32, 0x015C0000#32, 0x016C0000#32,
     0x017C0000#32, 0x018C0000#32, 0x019C0000#32, 0x01AC0000#32, 0x01BC0000#32, 0x01CC0000#32, 0x01DC0000#32] =
    [.cvtF32I8, .cvtF32I16, .cvtF32I24, .cvtF32I32, .cvtF32I48, .cvtF32I64, .cvtF32U8,
     .cvtF32U16, .cvtF32U24, .cvtF32U32, .cvtF32U48, .cvtF32U64, .cvtF32F32, .cvtF32F64].map some := by decide

theorem test_decode_cvt_from_f64 : decodeAll
    [0x010D0000#32, 0x011D0000#32, 0x012D0000#32, 0x013D0000#32, 0x014D0000#32, 0x015D0000#32, 0x016D0000#32,
     0x017D0000#32, 0x018D0000#32, 0x019D0000#32, 0x01AD0000#32, 0x01BD0000#32, 0x01CD0000#32, 0x01DD0000#32] =
    [.cvtF64I8, .cvtF64I16, .cvtF64I24, .cvtF64I32, .cvtF64I48, .cvtF64I64, .cvtF64U8,
     .cvtF64U16, .cvtF64U24, .cvtF64U32, .cvtF64U48, .cvtF64U64, .cvtF64F32, .cvtF64F64].map some := by decide

/-- R508 to R512: 95_test_vectors.md section 2.4 and the rules' examples. -/
theorem test_decode_smp : decodeAll [0x10C00C00#32, 0x10101C00#32, 0x10C02C00#32, 0x10103000#32, 0x10C04C00#32] =
    [Instr.smpSin .f32 .d500, .smpSaw .i16 .d500, .smpTri .f32 .d500, .smpSqr .i16 .d125, .smpCos .f32 .d500].map
      some := by decide

/-- R514, R515, R516. -/
theorem test_decode_osc : decodeAll [0x11001C00#32, 0x12C00000#32, 0x13100001#32] =
    [Instr.oscCfg .saw .d500 0#8, .oscNext .f32 0#8, .oscAt .i16 1#8].map some := by decide

/-- R541, R546, R549, R551, R552. -/
theorem test_decode_tbl_lut : decodeAll [0x18001C00#32, 0x19000400#32, 0x1A000001#32, 0x1B000000#32, 0x1C000001#32] =
    [Instr.tblBuild .saw .d500 0#8, .tblAlloc .sin .d250, .lutBind 1#8, .lutNext 0#8, .lutAt 1#8].map some := by decide

/-- R571 to R575, R580. -/
theorem test_decode_vso : decodeAll
    [0x20000000#32, 0x21000000#32, 0x22000001#32, 0x230000FF#32, 0x24000200#32, 0x25000000#32] =
    [Instr.vsoSetMaster 0#8, .vsoSetSlave 0#8, .vsoSetPw 1#8, .vsoSetShape 255#8, .vsoSetSync true 0#8,
     .vsoTick 0#8].map some := by decide

/-- R605 to R608, R610, R612. -/
theorem test_decode_env : decodeAll
    [0x30000000#32, 0x31000000#32, 0x32000001#32, 0x33000000#32, 0x34000200#32, 0x34000000#32, 0x35000000#32] =
    [Instr.envSetAttack 0#8, .envSetDecay 0#8, .envSetRelease 1#8, .envSetSustain 0#8, .envTick true 0#8,
     .envTick false 0#8, .envStat 0#8].map some := by decide

/-- R88, 95_test_vectors.md section 2.11: undefined opcodes, `Z`, unused fields, reserved formats and kinds. -/
theorem test_decode_refuses : decodeAll
    [0x00000000#32, 0xFF000000#32, 0x1A000100#32, 0x01000001#32, 0x01E00000#32, 0x010F0000#32, 0x10005000#32,
     0x11004000#32, 0x19004C00#32] = List.replicate 9 none := by decide

/-- The bits of a command as the opcode table numbers them (R80, R89). -/
theorem test_decodeTableWord : decodeTableWord 160 (0x19000400 + 2 ^ 32 * 7 + 2 ^ 96 * 9) = some (.tblAlloc .sin .d250) := by
  decide

/-! ## Conversions (worked examples of 41 to 45 and 95_test_vectors.md) -/

/-- R116: -128 becomes -1.0. -/
theorem test_cvt_i8_f32 : answer fresh 0x01C00000#32 0x80#64 0#64 = some (.ok, 0x00000000BF800000#64) := by decide +kernel
/-- R126: `U8` 255 widens to `U16` `0xFF00`. -/
theorem test_cvt_u8_u16 : answer fresh 0x01760000#32 0xFF#64 0#64 = some (.ok, 0xFF00#64) := by decide +kernel
/-- R126: `I16` -1 narrows to `I8` -1. -/
theorem test_cvt_i16_i8 : answer fresh 0x01010000#32 0xFFFF#64 0#64 = some (.ok, 0xFFFFFFFFFFFFFFFF#64) := by decide +kernel
/-- R127: the tie below the maximum of `I32` gives 1.0, the value below it `0x3F7FFFFF`. -/
theorem test_cvt_i32_f32_tie : answer fresh 0x01C30000#32 0x7FFFFFC0#64 0#64 = some (.ok, 0x3F800000#64) ∧
    answer fresh 0x01C30000#32 0x7FFFFFBF#64 0#64 = some (.ok, 0x3F7FFFFF#64) := by decide +kernel
/-- R404: truncation toward zero. -/
theorem test_cvt_f32_i48_truncates : answer fresh 0x014C0000#32 0xA8400000#64 0#64 = some (.ok, 0xFFFFFFFFFFFFFFFF#64) ∧
    answer fresh 0x014C0000#32 0xA7800000#64 0#64 = some (.ok, 0#64) := by decide +kernel
/-- R406: the bias is added after the truncation. -/
theorem test_cvt_f32_u8 : answer fresh 0x016C0000#32 0xBC400000#64 0#64 = some (.ok, 0x7F#64) := by decide +kernel
/-- Program P1, step 6. -/
theorem test_cvt_f64_u48 : answer fresh 0x01AD0000#32 0x3FE2000000000000#64 0#64 = some (.ok, 0x0000C80000000000#64) := by
  decide +kernel
/-- Program P1, step 5. -/
theorem test_cvt_f32_f64 : answer fresh 0x01DC0000#32 0x3F100000#64 0#64 = some (.ok, 0x3FE2000000000000#64) := by
  decide +kernel

/-! ## Waveforms and the runtime oscillator -/

/-- R509, R510, R511. -/
theorem test_smp_saw : answer at48k 0x10101C00#32 12#64 0x43DC0000#64 = some (.ok, 0xFFFFFFFFFFFF9C29#64) := by decide +kernel
theorem test_smp_saw_f64 : answer at48k 0x10D01C00#32 12#64 0x43DC0000#64 = some (.ok, 0xBFE8F5C280000000#64) := by
  decide +kernel
theorem test_smp_tri : answer at48k 0x10C02C00#32 12#64 0x43DC0000#64 = some (.ok, 0x00000000BF0F5C28#64) := by decide +kernel
theorem test_smp_sqr : answer at48k 0x10C03000#32 12#64 0x43DC0000#64 = some (.ok, 0x000000003F800000#64) ∧
    answer at48k 0x10103000#32 27#64 0x43DC0000#64 = some (.ok, 0xFFFFFFFFFFFF8000#64) := by decide +kernel
/-- R508, R512: index 0. -/
theorem test_smp_sin_cos_zero : answer at48k 0x10C00C00#32 0#64 0x43DC0000#64 = some (.ok, 0#64) ∧
    answer at48k 0x10C04C00#32 0#64 0x43DC0000#64 = some (.ok, 0x3F800000#64) := by decide +kernel
/-- U4: a negative frequency. -/
theorem test_smp_refuses_negative : refusalOf (run at48k 0x10101C00#32 12#64 0xC3DC0000#64) = some .frequencyOutOfContract := by
  decide +kernel
/-- R514. -/
theorem test_osc_cfg : (nextOf (run at48k 0x11001C00#32 0#64 0x43DC0000#64)).map (fun t => (t.st, t.res, t.osc[0]?)) =
    some (.ok, 0#64, some { cfg := true, kind := .saw, duty := .d500, freq := 0x43DC0000#32, phase := 0#32 }) := by
  decide +kernel
/-- R515: the sample of the phase before the advance, and the wrap. -/
theorem test_osc_next : (nextOf (run playing 0x12C00000#32 0#64 0#64)).map (fun t => (t.res, t.osc[0]?.map Osc.phase)) =
    some (0x000000003F400000#64, some 0#32) := by decide +kernel
/-- R516: the word of `SMP` (program P5's saw at index 2: -0.5). -/
theorem test_osc_at : answer playing 0x13100000#32 2#64 0#64 = some (.ok, 0xFFFFFFFFFFFFC000#64) := by decide +kernel

/-! ## Tables -/

/-- R541: the eight words, the handle, the flag. -/
theorem test_tbl_build : (nextOf (run fresh 0x18001C00#32 0#64 0x3F800000#64)).map
    (fun t => (t.res, t.privOk[0]?, (List.range 8).map fun i => memRead t.mem (privHandle 0) (BitVec.ofNat 32 i))) =
    some (0x80000000#64, some true, saw8.map some) := by decide +kernel
/-- R543, R504: a sine table at `-0.0` hertz is all `OUT(TABLE_FMT, +0.0)`, and entry 0 is so at the largest frequency too. -/
theorem test_tbl_build_sine_zero :
    ((nextOf (run fresh 0x18000000#32 0#64 0x80000000#64)).map fun t =>
      (List.range 8).all fun i => memRead t.mem (privHandle 0) (BitVec.ofNat 32 i) == some 0#64) = some true ∧
    sineEntry fresh.cfg (sineStep fresh.cfg 0x7F7FFFFF#32) 0 = 0#64 := by decide +kernel
/-- R541: a buffer of another length. -/
theorem test_tbl_build_size : answer fresh 0x18001C01#32 0#64 0x3F800000#64 =
    some (.incorrectSize, 0x0000000800000010#64) := by decide +kernel
/-- R546, program P2 step 1. -/
theorem test_tbl_alloc_miss : (nextOf (run fresh 0x19001C00#32 0#64 0x3F800000#64)).map
    (fun t => (t.res, t.cnt, t.tags[0]?, memRead t.mem (cacheHandle 0) 5#32)) =
    some (0#64, 1, some { kind := .saw, duty := .d500, freq := 0x3F800000#32 }, some 0x2000#64) := by decide +kernel
/-- R545, program P2 step 8: a hit inside the epsilon changes nothing; `0x3F800347` is outside. -/
theorem test_tbl_alloc_hit :
    (nextOf (run playing 0x19001C00#32 0#64 0x3F800346#64)).map (fun t => (t.st, t.res, t.cnt)) = some (.ok, 0#64, 1) ∧
    freqEq 0x3F800000#32 0x3F800347#32 = false := by decide +kernel
/-- R546: a full cache. -/
theorem test_tbl_alloc_full : answer { playing with cnt := 2 } 0x19002C00#32 0#64 0x40000000#64 =
    some (.tableFull, 0#64) := by decide +kernel
/-- R549: a handle that names no built table. -/
theorem test_lut_bind : answer playing 0x1A000001#32 0#64 0#64 = some (.ok, 0#64) ∧
    answer playing 0x1A000001#32 5#64 0#64 = some (.illegal, 0#64) := by decide +kernel
/-- R551: entry 7, and the wrap to 0. -/
theorem test_lut_next : (nextOf (run playing 0x1B000000#32 0#64 0#64)).map (fun t => (t.res, t.lut[0]?.map Lut.idx)) =
    some (0x6000#64, some 0#32) := by decide +kernel
/-- R552: 10 mod 8 = 2. -/
theorem test_lut_at : answer playing 0x1C000000#32 10#64 0#64 = some (.ok, 0xFFFFFFFFFFFFC000#64) := by decide +kernel

/-! ## The variable-shape oscillator -/

/-- R571, R572. -/
theorem test_vso_set_master : (nextOf (run at48k 0x20000000#32 0x45BB8000#64 0#64)).map (fun t => t.vso.map fun v => (v.mfreq, v.wr)) =
    some [(0x3E000000#32, 1#5)] := by decide +kernel
/-- U5, R768: an infinite frequency is stored as 0.25 and marked; a good one after it does not clear the mark, and the tick is
refused. -/
theorem test_vso_mark_sticks : ((nextOf (run ticking 0x20000000#32 0x7F800000#64 0#64)).bind fun t =>
    (nextOf (run t 0x20000000#32 0x3F800000#64 0#64)).map fun u =>
      (t.vso.map fun v => (v.mfreq, v.undef), refusalOf (run u 0x25000000#32 0#64 0#64))) =
    some ([(0x3E800000#32, 1#5)], some .vsoParameterOutOfContract) := by decide +kernel
theorem test_vso_set_slave : (nextOf (run at48k 0x21000000#32 0x45960000#64 0#64)).map (fun t => t.vso.map fun v => (v.sfreq, v.wr)) =
    some [(0x3DCCCCCD#32, 2#5)] := by decide +kernel
/-- R573, R574, R575. -/
theorem test_vso_set_pw : (nextOf (run at48k 0x22000000#32 0x3F000000#64 0#64)).map (fun t => t.vso.map fun v => (v.pwReq, v.wr)) =
    some [(0x3F000000#32, 4#5)] := by decide +kernel
theorem test_vso_set_shape : (nextOf (run at48k 0x23000000#32 0x3F800000#64 0#64)).map
    (fun t => t.vso.map fun v => (v.shape, v.wr)) = some [(0x3F800000#32, 8#5)] := by decide +kernel
theorem test_vso_set_sync : (nextOf (run at48k 0x24000200#32 0#64 0#64)).map (fun t => t.vso.map fun v => (v.sync, v.wr)) =
    some [(true, 16#5)] := by decide +kernel
/-- R580, program P4 tick 4: the rising transition. -/
theorem test_vso_tick_rise : vsoTick { vso585 with mph := 0x3F000000#32, sph := 0x3ECCCCCD#32 } =
    ({ vso585 with mph := 0x3F200000#32, sph := 0x3F000000#32, high := true, next := 0x3F000000#32 }, 0xBF800000#32) := by
  decide +kernel
/-- R580, program P4 tick 7: the forced reset. -/
theorem test_vso_tick_sync : vsoTick { vso585 with mph := 0x3F600000#32, sph := 0x3F333334#32, high := true, next := 0x3F800000#32 } =
    ({ vso585 with mph := 0#32, sph := 0#32, high := false, next := 0x3F000000#32 }, 0x3F800000#32) := by decide +kernel

/-! ## The envelope -/

/-- V149, V150: a time at or below zero; V157, V159: the sustain clamp. -/
theorem test_env_set_attack : (nextOf (run at48k 0x30000000#32 0x80000000#64 0#64)).map
    (fun t => t.env.map fun e => (e.level, e.d0a, e.wr)) = some [(0x3F8147AE#32, 0x3F800000#32, 1#4)] := by decide +kernel
theorem test_env_set_attack_shape_one : envLevel 0x3F800000#32 = 0x4124F5C3#32 := by decide +kernel
theorem test_env_set_decay : (nextOf (run at48k 0x31000000#32 0#64 0#64)).map (fun t => t.env.map fun e => (e.d0d, e.wr)) =
    some [(0x3F800000#32, 2#4)] := by decide +kernel
/-- U6: a NaN time is marked; a good one after it does not clear the mark, and the tick is refused. -/
theorem test_env_mark_sticks : ((nextOf (run ticking 0x31000000#32 0x7FC00000#64 0#64)).bind fun t =>
    (nextOf (run t 0x31000000#32 0#64 0#64)).map fun u =>
      (u.env.map fun e => (e.d0d, e.undef), refusalOf (run u 0x34000200#32 0#64 0#64))) =
    some ([(0x3F800000#32, 2#4)], some .envParameterOutOfContract) := by decide +kernel
theorem test_env_set_release : (nextOf (run at48k 0x32000000#32 0#64 0#64)).map (fun t => t.env.map fun e => (e.d0r, e.wr)) =
    some [(0x3F800000#32, 4#4)] := by decide +kernel
theorem test_env_set_sustain : (nextOf (run at48k 0x33000000#32 0xC0400000#64 0#64)).map
    (fun t => t.env.map fun e => (e.sus, e.wr)) = some [(0xBC23D70A#32, 8#4)] := by decide +kernel
/-- Program P3, ticks 5 and 17: the clamps. -/
theorem test_env_tick_attack_clamp :
    envTicked true { envP3 with state := .attack, x := 0x3F800000#32, gatePrev := true } =
      { envP3 with state := .decay, x := 0x3F800000#32, gatePrev := true } := by decide +kernel
theorem test_env_tick_release_clamp :
    envTicked false { envP3 with state := .release, x := 0x3AB57380#32 } = { envP3 with state := .init, x := 0#32 } := by
  decide +kernel
/-- Program P3, tick 1. -/
theorem test_env_tick : answer (ready {} envP3) 0x34000200#32 0#64 0#64 = some (.ok, 0x000000003F30FFD2#64) := by decide +kernel
/-- Scenario (f): a tick before the setters; the state read. -/
theorem test_env_stat : answer fresh 0x34000200#32 0#64 0#64 = some (.illegal, 0#64) ∧
    answer (ready {} { envP3 with state := .decay }) 0x35000000#32 0#64 0#64 = some (.ok, 2#64) := by decide +kernel

/-! ## Reset -/

/-- R750. -/
theorem test_reset_step : nextOf (step { playing with rst := true, st := .illegal, res := 7#64 }) =
    some { State.reset with rst := true } := by decide +kernel

/-! ## Witnesses: for every statement with hypotheses, a state and operands that meet all of them, one for each clause and at
the ends of its range -/

/-- A state with a command on its ports. -/
def with1 (s : State) (cmd : BitVec 32) (opa opb : Word) : State := present s { cmd := cmd, opa := opa, opb := opb }

/-- An outcome is a next state with a property. -/
def goesOn (r : Result) (p : State → Bool) : Bool := (nextOf r).any p

/-- A second cache entry is free, and the first holds the saw; the cache is full. -/
def full : State :=
  { playing with cnt := 2, tags := [{ kind := .saw, duty := .d500, freq := 0x3F800000#32 },
      { kind := .tri, duty := .d500, freq := 0x3F800000#32 }] }

/-- Private buffer 0 built. -/
def built : State := { fresh with privOk := [true, false], mem := tableCells (2 ^ 31 * 2 ^ 32) saw8 }

theorem witness_DecodeInvertsEncode :
    (Instr.smpCos .f64 .d330).wellFormed = true ∧ (Instr.vsoSetSync true 0xFF#8).wellFormed = true := by decide
theorem witness_EncodeInvertsDecode : decode 0x10D04800#32 = .ok (.smpCos .f64 .d330) := by decide
theorem witness_DecoderRefusesInOrder :
    usedFields (opcField 0x00000000#32) = none ∧
    (∃ u, usedFields (opcField 0x1A000100#32) = some u ∧ unusedZero u 0x1A000100#32 = false) ∧
    (∃ u, usedFields (opcField 0x10E00000#32) = some u ∧ unusedZero u 0x10E00000#32 = true ∧ ReservedFormat u 0x10E00000#32) ∧
    (∃ u, usedFields (opcField 0x10005000#32) = some u ∧ unusedZero u 0x10005000#32 = true ∧
      ¬ReservedFormat u 0x10005000#32 ∧ ReservedKind u 0x10005000#32) ∧
    (∃ u, usedFields (opcField 0x11004000#32) = some u ∧ unusedZero u 0x11004000#32 = true ∧
      ¬ReservedFormat u 0x11004000#32 ∧ ReservedKind u 0x11004000#32) ∧
    (∃ u, usedFields (opcField 0x10D04C00#32) = some u ∧ unusedZero u 0x10D04C00#32 = true ∧
      ¬ReservedFormat u 0x10D04C00#32 ∧ ¬ReservedKind u 0x10D04C00#32) ∧
    fresh.rst = false ∧ fresh.cmd = 0#32 ∧ decode 0#32 = .error .undefinedOpcode := by
  refine ⟨by decide, ⟨_, rfl, by decide⟩, ⟨_, rfl, by decide⟩, ⟨_, rfl, by decide⟩, ⟨_, rfl, by decide⟩,
    ⟨_, rfl, by decide⟩, by decide⟩

theorem witness_StepRunsDecoded :
    (with1 playing 0x1B000000#32 0#64 0#64).rst = false ∧
    decode (with1 playing 0x1B000000#32 0#64 0#64).cmd = .ok (.lutNext 0#8) := by decide
theorem witness_ResetEvent : ({ playing with rst := true } : State).rst = true := by decide

theorem witness_CvtCompletes : Fmt.i64.isInt = true ∧ inContract .f64 0xBFF0000000000000#64 = true ∧
    inContract .f64 0x3FEFFFFFFFFFFFFF#64 = true ∧ inContract .f64 0x3FF0000000000000#64 = false ∧
    (0xFFFFFFFF3F800000#64).toNat % 2 ^ Fmt.f32.width = (0x3F800000#64).toNat % 2 ^ Fmt.f32.width := by decide
theorem witness_SignedDomain : Fmt.i8.isInt = true ∧ Fmt.i8.isSigned = true ∧ Fmt.u64.isInt = true ∧
    Fmt.u64.isSigned = false := by decide
theorem witness_CvtIntegerToInteger : Fmt.i24.isInt = true ∧ Fmt.u24.isInt = true ∧ Fmt.i24.width ≤ Fmt.u24.width ∧
    Fmt.u64.isInt = true ∧ Fmt.i8.isInt = true ∧ Fmt.i8.width < Fmt.u64.width := by decide
theorem witness_CvtIntegerToFloat : Fmt.u8.isInt = true ∧ signedVal .u8 0x80#64 = 0 ∧ Fmt.i64.isInt = true := by decide
theorem witness_CvtIntegerToFloatExact : Fmt.i24.isInt = true ∧ Fmt.i24.width ≤ 24 ∧ Fmt.u48.isInt = true ∧
    Fmt.u48.width ≤ 48 ∧ Fmt.i64.isInt = true := by decide
theorem witness_CvtFloatToInteger : Fmt.u8.isInt = true ∧ inContract .f32 0xBF800000#64 = true ∧
    inContract .f32 0x3F7FFFFF#64 = true ∧ inContract .f64 0xBFF0000000000000#64 = true ∧
    inContract .f64 0x3FEFFFFFFFFFFFFF#64 = true := by decide
theorem witness_CvtFloatToFloat : inContract .f32 0x80000000#64 = true ∧ inContract .f64 0x3FEFFFFFFFFFFFFF#64 = true := by
  decide
theorem witness_CvtOutOfContract : Fmt.f32.isFloat = true ∧ inContract .f32 0x3F800000#64 = false ∧
    inContract .f32 0x7FC00000#64 = false ∧ Fmt.f64.isFloat = true ∧ inContract .f64 0x3FF0000000000000#64 = false := by
  decide
theorem witness_CvtRoundTrip : lossless .i16 .f32 = true ∧ inContract .i16 0x8000#64 = true ∧ lossless .i32 .f32 = false := by
  decide

theorem witness_FloatArithmeticRounds :
    isFin32 0x7F7FFFFF#32 = true ∧ isFin32 0x80000000#32 = true ∧ int32 0x80000000#32 + int32 0x80000000#32 = 0 ∧
    mag32 0x00000001#32 ≠ 0 ∧ isFin32 0x00000001#32 = true ∧ mag32 0x80000000#32 = 0 ∧ isNaN32 0x7FC00000#32 = true ∧
    isInf32 0xFF800000#32 = true ∧ isInf32 0x7F800000#32 = true ∧
    sign32 0x7F800000#32 ≠ sign32 0xFF800000#32 := by decide +kernel
theorem witness_FractionIsExact : isFin32 0x3FC00000#32 = true ∧ le32 zero32 0x3FC00000#32 = true ∧
    int32 0x3F800000#32 % 2 ^ 149 = 0 ∧ isFin32 0x7F7FFFFF#32 = true ∧ le32 zero32 0x7F7FFFFF#32 = true ∧
    le32 0x4B000000#32 0x7F7FFFFF#32 = true := by decide +kernel
theorem witness_WaveRanges : InUnit 0x00000000#32 ∧ InUnit 0x3F7FFFFF#32 := by decide
theorem witness_SmpResult : isFin32 0x43DC0000#32 = true ∧ le32 zero32 0x43DC0000#32 = true ∧
    isFin32 (mul32 (div32 (rn32 false 0xFFFFFFFFFFFFFFFF 1) (rn32 false at48k.cfg.sampleRate 1)) 0x43DC0000#32) = true ∧
    isFin32 0x80000000#32 = true ∧ le32 zero32 0x80000000#32 = true ∧
    isFin32 (mul32 (div32 (rn32 false 0 1) (rn32 false at48k.cfg.sampleRate 1)) 0x80000000#32) = true := by decide +kernel
theorem witness_SmpPhase : at48k.cfg.wf ∧ freqInContract 0x7F7FFFFF#32 = true ∧ mag32 0x80000000#32 = 0 ∧
    phaseInContract at48k.cfg 12 0x43DC0000#32 = true ∧ phaseInContract fresh.cfg 16 0x7F7FFFFF#32 = false := by
  decide +kernel

theorem witness_OscConfigure : Wave.sqr.isSourceKind = true ∧ (1#8).toNat < fresh.cfg.nOsc ∧ (1#8).toNat < fresh.osc.length := by
  decide
theorem witness_OscNextSample : ∃ o, (0#8).toNat < playing.cfg.nOsc ∧ playing.osc[(0#8).toNat]? = some o ∧ o.cfg = true ∧
    isFin32 o.freq = true ∧ le32 zero32 o.freq = true := ⟨_, by decide, rfl, by decide⟩
theorem witness_OscAtIsSmp : ∃ o, (0#8).toNat < playing.cfg.nOsc ∧ playing.osc[(0#8).toNat]? = some o ∧ o.cfg = true ∧
    phaseInContract playing.cfg (0xFFFFFFFFFFFFFFFF#64).toNat o.freq = true := ⟨_, by decide, rfl, by decide +kernel⟩

theorem witness_TblBuildFills : SizesOk fresh ∧ Wave.sin.isSourceKind = true ∧ Wave.sqr.isSourceKind = true ∧
    fresh.cfg.privLen[(0#8).toNat]? = some fresh.cfg.sampleRate ∧ freqInContract 0x3F800000#32 = true := by decide +kernel
theorem witness_IncorrectSizeExactly : Wave.saw.isSourceKind = true ∧ fresh.cfg.privLen[(1#8).toNat]? = some 16 ∧
    16 ≠ fresh.cfg.sampleRate ∧ goesOn (exec (.tblBuild .saw .d500 1#8) fresh) (fun t => t.st == .incorrectSize) = true := by
  decide +kernel
theorem witness_TableFullExactly :
    goesOn (exec (.tblAlloc .saw .d500) { full with opb := 0x40000000#64 }) (fun t => t.st == .tableFull) = true ∧
    goesOn (exec (.tblAlloc .saw .d500) { full with opb := 0x3F800000#64 }) (fun t => t.st == .ok) = true := by
  decide +kernel
theorem witness_TblAllocResult : SizesOk full ∧ full.cnt ≤ full.cfg.cacheCap ∧ Wave.tri.isSourceKind = true ∧
    freqInContract 0x3F800000#32 = true ∧
    (∃ g, full.tags[1]? = some g ∧ 1 < full.cnt ∧ tagMatches .tri .d500 0x3F800000#32 g = true ∧
      ∀ k < 1, ∀ g' ∈ full.tags[k]?, tagMatches .tri .d500 0x3F800000#32 g' = false) ∧
    SizesOk playing ∧ playing.cnt < playing.cfg.cacheCap ∧
    (∀ e < playing.cnt, ∀ g ∈ playing.tags[e]?, tagMatches .tri .d500 0x3F800000#32 g = false) ∧
    full.cnt = full.cfg.cacheCap ∧ (∀ e < full.cnt, ∀ g ∈ full.tags[e]?, tagMatches .sqr .d500 0x3F800000#32 g = false) := by
  refine ⟨by decide +kernel, by decide, by decide, by decide +kernel, ⟨_, rfl, by decide +kernel⟩, by decide +kernel, by decide,
    by decide +kernel, by decide, by decide +kernel⟩
theorem witness_CacheRepeatsAndSeparates : SizesOk fresh ∧ fresh.cnt ≤ fresh.cfg.cacheCap ∧ Duty.d250 ≠ Duty.d500 ∧
    goesOn (exec (.tblAlloc .sqr .d500) { fresh with opb := 0x3F800000#64 }) (fun t =>
      t.st == .ok && goesOn (exec (.tblAlloc .sqr .d250) t) (fun u => u.st == .ok)) = true := by decide +kernel
theorem witness_CacheNeverForgets : SizesOk playing ∧ playing.cnt ≤ playing.cfg.cacheCap ∧ playing.rst = false ∧
    0 < playing.cnt ∧ handleValid playing 0#32 = true ∧
    goesOn (run playing 0x19002C00#32 0#64 0x3F800000#64) (fun t => t.cnt == 2) = true := by decide +kernel
theorem witness_LutBind : (1#8).toNat < playing.cfg.nLut ∧ (1#8).toNat < playing.lut.length ∧
    ((0#32).msb = false ∧ (0#32).toNat % 2 ^ 31 < playing.cnt) ∧ (1#8).toNat < built.cfg.nLut ∧
    (1#8).toNat < built.lut.length ∧ (0x80000000#32).msb = true ∧ (0x80000000#32).toNat % 2 ^ 31 < built.cfg.nPriv ∧
    built.privOk[(0x80000000#32).toNat % 2 ^ 31]? = some true := by decide
theorem witness_LutReads : ∃ l, Wired playing ∧ (0#8).toNat < playing.cfg.nLut ∧ playing.lut[(0#8).toNat]? = some l ∧
    l.bound = true := ⟨_, by decide +kernel, by decide, rfl, by decide⟩
theorem witness_LutNextWalks : ∃ l, Wired rewound ∧ (0#8).toNat < rewound.cfg.nLut ∧ rewound.lut[(0#8).toNat]? = some l ∧
    l.bound = true ∧ l.idx = 0#32 := ⟨_, by decide +kernel, by decide, rfl, by decide⟩
theorem witness_TableReadsBack : SizesOk fresh ∧ Wave.sqr.isSourceKind = true ∧ Wave.sqr ≠ Wave.sin ∧
    fresh.cfg.privLen[(0#8).toNat]? = some fresh.cfg.sampleRate ∧ freqInContract 0x3F800000#32 = true ∧
    (1#8).toNat < fresh.cfg.nLut := by decide +kernel

theorem witness_VsoSetters : (0#8).toNat < fresh.cfg.nVso ∧ fresh.vso[(0#8).toNat]? = some {} := by decide
theorem witness_VsoKernels : ∃ u t1 t2 : F32, u = sub32 0x3F800000#32 half32 ∧ t1 = mul32 0x3F000000#32 half32 ∧
    t2 = mul32 t1 t1 := ⟨_, _, _, rfl, rfl, rfl⟩
theorem witness_VsoTickResult : (0#8).toNat < ticking.cfg.nVso ∧ ticking.vso[(0#8).toNat]? = some vso585 ∧
    vso585.wr = 0b11111#5 ∧ vso585.undef = 0#5 ∧ le32 zero32 vso585.mfreq = true ∧ le32 vso585.mfreq 0x3E800000#32 = true ∧
    lt32 zero32 vso585.sfreq = true ∧ le32 vso585.sfreq 0x3E800000#32 = true ∧ isFin32 vso585.pwReq = true ∧
    le32 zero32 vso585.shape = true ∧ le32 vso585.shape 0x3F800000#32 = true ∧ InUnit vso585.sph := by decide +kernel
/-- The cases of the same statement: a wrap with sync on, a reset that crosses the end of the slave's cycle, a rising and a
falling transition, and a tick without any. -/
theorem witness_VsoTickResult_cases :
    (le32 one32 (add32 0x3F600000#32 vso585.mfreq) && vso585.sync) = true ∧
    le32 one32 (add32 0x3F7FFFFF#32 (mul32 (sub32 one32 0#32) vso585.sfreq)) = true ∧
    (!vso585.high && !lt32 (add32 0x3ECCCCCD#32 vso585.sfreq) (vsoShapeOf vso585).pw) = true ∧
    (!lt32 (add32 0x3F7FFFFF#32 vso585.sfreq) one32) = true ∧
    (le32 one32 (add32 vso585.mph vso585.mfreq) && vso585.sync) = false ∧
    (!vso585.high && !lt32 (add32 vso585.sph vso585.sfreq) (vsoShapeOf vso585).pw) = false := by decide +kernel
theorem witness_PulseWidthBounds : lt32 zero32 0x3E800000#32 = true ∧ le32 0x3E800000#32 0x3E800000#32 = true ∧
    isFin32 0xFF7FFFFF#32 = true ∧ lt32 zero32 0x00000001#32 = true ∧ lt32 0x00000001#32 0x3E800000#32 = true ∧
    lt32 0x32800000#32 0x3DCCCCCD#32 = true ∧ le32 (mul32 0x3DCCCCCD#32 two32) 0x3F000000#32 = true ∧
    le32 0x3F000000#32 (sub32 one32 (mul32 two32 0x3DCCCCCD#32)) = true := by decide +kernel
theorem witness_VsoFirstTick : vsoInContract vso585 = true ∧ vso585.mph = 0#32 ∧ vso585.sph = 0#32 ∧ vso585.next = 0#32 ∧
    vso585.high = false ∧ vsoInContract { vso585 with mfreq := 0x80000000#32, sfreq := 0x3E800000#32 } = true := by
  decide +kernel
theorem witness_VsoLoopEnds : vsoInContract { vso585 with sph := 0x3F7FFFFF#32, high := true } = true ∧ InUnit 0x3F7FFFFF#32 ∧
    vsoInContract vso585 = true ∧ InUnit vso585.sph := by decide +kernel
theorem witness_VsoSyncOffIgnoresMaster : ({ vso585 with sync := false } : Vso).sync = false := by decide

theorem witness_EnvSetters : (0#8).toNat < fresh.cfg.nEnv ∧ fresh.env[(0#8).toNat]? = some {} ∧ isNaN32 0x3DCCCCCD#32 = false ∧
    le32 zero32 0x80000000#32 = true ∧ le32 0x3F800000#32 one32 = true ∧ le32 zero32 0x3F800000#32 = true := by decide
theorem witness_EnvSettersOutOfContract : (0#8).toNat < fresh.cfg.nEnv ∧ fresh.env[(0#8).toNat]? = some {} ∧
    isNaN32 0x7FC00000#32 = true ∧
    ¬(le32 zero32 0x3F800001#32 = true ∧ le32 0x3F800001#32 one32 = true) := by decide
theorem witness_EnvCoefficientsInRange : at48k.cfg.wf ∧ isNaN32 0x00000001#32 = false ∧ isNaN32 0xFF800000#32 = false ∧
    le32 zero32 0x3F800000#32 = true ∧ le32 0x3F800000#32 one32 = true := by decide +kernel
theorem witness_EnvTickStages : (0#8).toNat < ticking.cfg.nEnv ∧ ticking.env[(0#8).toNat]? = some envP3 ∧
    envP3.wr = 0b1111#4 ∧ envP3.undef = 0#4 ∧ envP3.gatePrev = false ∧ false = envP3.gatePrev ∧
    lt32 one32 (add32 0x3F7FFFFF#32 (mul32 envP3.d0a (sub32 envP3.level 0x3F7FFFFF#32))) = true ∧
    lt32 one32 (add32 envP3.x (mul32 envP3.d0a (sub32 envP3.level envP3.x))) = false ∧
    lt32 (add32 0#32 (mul32 envP3.d0r (sub32 0xBC23D70A#32 0#32))) zero32 = true := by decide +kernel
theorem witness_EnvOutputInRange : EnvOk envP3 ∧ EnvOk { envP3 with state := .attack, x := 0x3F7FFFFF#32, gatePrev := true } ∧
    EnvOk { envP3 with state := .release, x := 0x3F800000#32 } ∧ envP3.wr = 0b1111#4 ∧ envP3.undef = 0#4 := by decide +kernel
theorem witness_EnvStat : (0#8).toNat < fresh.cfg.nEnv ∧ fresh.env[(0#8).toNat]? = some {} := by decide

theorem witness_IndexOutOfRangeIllegal : fresh.cfg.nOsc ≤ (2#8).toNat ∧ fresh.cfg.nPriv ≤ (2#8).toNat ∧
    fresh.cfg.nLut ≤ (2#8).toNat ∧ fresh.cfg.nVso ≤ (1#8).toNat ∧ fresh.cfg.nEnv ≤ (1#8).toNat := by decide
theorem witness_PrematureCommandIllegal : fresh.osc[(0#8).toNat]? = some {} ∧ ({} : Osc).cfg = false ∧
    fresh.lut[(0#8).toNat]? = some {} ∧ ({} : Lut).bound = false ∧ handleValid fresh 0#32 = false ∧
    handleValid fresh 0x80000000#32 = false ∧ fresh.vso[(0#8).toNat]? = some {} ∧ ({} : Vso).wr ≠ 0b11111#5 ∧
    fresh.env[(0#8).toNat]? = some {} ∧ ({} : Env).wr ≠ 0b1111#4 := by decide
theorem witness_OutOfContractRefused :
    phaseInContract fresh.cfg 0 0xBF800000#32 = false ∧ freqInContract 0x7F800000#32 = false ∧
    Wave.saw.isSourceKind = true ∧ fresh.cfg.privLen[(0#8).toNat]? = some fresh.cfg.sampleRate ∧
    (∃ s : State, ∃ o, (0#8).toNat < s.cfg.nOsc ∧ s.osc[(0#8).toNat]? = some o ∧ o.cfg = true ∧
      freqInContract o.freq = false ∧ phaseInContract s.cfg 0 o.freq = false) ∧
    (∃ s : State, ∃ v, (0#8).toNat < s.cfg.nVso ∧ s.vso[(0#8).toNat]? = some v ∧ v.wr = 0b11111#5 ∧ vsoInContract v = false) ∧
    (∃ s : State, ∃ v, (0#8).toNat < s.cfg.nVso ∧ s.vso[(0#8).toNat]? = some v ∧ v.wr = 0b11111#5 ∧ v.undef ≠ 0#5) ∧
    ∃ s : State, ∃ e, (0#8).toNat < s.cfg.nEnv ∧ s.env[(0#8).toNat]? = some e ∧ e.wr = 0b1111#4 ∧ e.undef ≠ 0#4 := by
  refine ⟨by decide +kernel, by decide, by decide, by decide,
    ⟨{ fresh with osc := [{ cfg := true, freq := 0x7FC00000#32 }] }, _, by decide, rfl, by decide +kernel⟩,
    ⟨ready { vso585 with sfreq := 0#32 } {}, _, by decide, rfl, by decide⟩,
    ⟨ready { vso585 with undef := 0b00001#5 } {}, _, by decide, rfl, by decide⟩,
    ⟨ready {} { envP3 with undef := 0b0001#4 }, _, by decide, rfl, by decide⟩⟩
theorem witness_ErrorsChangeNothing : fresh.rst = false ∧
    goesOn (run fresh 0x1B000000#32 0#64 0#64) (fun t => t.st == .illegal) = true := by decide +kernel

theorem witness_CommandsWriteTheirOwn : (with1 playing 0x11001C00#32 0#64 0x3F800000#64).rst = false ∧
    1 ≠ (instField 0x11001C00#32).toNat ∧ opcField 0x11001C00#32 ∉ [0x18#8, 0x19#8] ∧
    goesOn (run playing 0x11001C00#32 0#64 0x3F800000#64) (fun t => t.st == .ok) = true := by decide +kernel
theorem witness_InstancesIndependent : (with1 playing 0x1B000000#32 0#64 0#64).rst = false ∧
    1 ≠ (instField 0x1B000000#32).toNat ∧ opcField 0x1B000000#32 ∉ [0x11#8, 0x12#8, 0x13#8] ∧
    opcField 0x1B000000#32 ∉ [0x20#8, 0x21#8, 0x22#8, 0x23#8, 0x24#8, 0x25#8] ∧
    opcField 0x1B000000#32 ∉ [0x30#8, 0x31#8, 0x32#8, 0x33#8, 0x34#8, 0x35#8] ∧
    opcField 0x01000000#32 ∉ [0x1A#8, 0x1B#8, 0x1C#8] ∧
    goesOn (run playing 0x01000000#32 0#64 0#64) (fun t => t.st == .ok) = true ∧
    goesOn (run playing 0x1B000000#32 0#64 0#64) (fun t => t.st == .ok) = true := by decide +kernel
theorem witness_FlagsNeverCleared : (with1 playing 0x1A000000#32 0#64 0#64).rst = false ∧
    (∃ l, playing.lut[0]? = some l ∧ l.bound = true) ∧ built.privOk[0]? = some true ∧
    goesOn (run playing 0x1A000000#32 0#64 0#64) (fun t => t.st == .ok) = true :=
  ⟨by decide, ⟨_, rfl, by decide⟩, by decide, by decide +kernel⟩
theorem witness_StepStopsOnlyOutOfContract : Wired (with1 playing 0x10101C00#32 0#64 0xBF800000#64) ∧
    refusalOf (run playing 0x10101C00#32 0#64 0xBF800000#64) = some .frequencyOutOfContract := by
  decide +kernel
theorem witness_StepStopsOnlyOutOfContract_ticks : Wired marked ∧
    refusalOf (run marked 0x25000000#32 0#64 0#64) = some .vsoParameterOutOfContract ∧
    refusalOf (run marked 0x34000000#32 0#64 0#64) = some .envParameterOutOfContract := by decide +kernel
theorem witness_InvariantsAtReset : at48k.cfg.wf ∧ Config.integrator.wf := by decide +kernel
theorem witness_StepKeepsWired : Wired (with1 playing 0x1B000000#32 0#64 0#64) ∧
    goesOn (run playing 0x1B000000#32 0#64 0#64) (fun t => t.lut != playing.lut) = true := by decide +kernel
theorem witness_StepKeepsPhases : playing.cfg.wf ∧ PhasesOk (with1 playing 0x12C00000#32 0#64 0#64) ∧
    goesOn (run playing 0x12C00000#32 0#64 0#64) (fun t => t.osc != playing.osc) = true := by decide +kernel
theorem witness_StepKeepsEnvelopes : ticking.cfg.wf ∧ EnvelopesOk (with1 ticking 0x34000200#32 0#64 0#64) ∧
    goesOn (run ticking 0x34000200#32 0#64 0#64) (fun t => t.env != ticking.env) = true := by decide +kernel

end Sys2Proof.Tests
end

section
/-! The statements on the scope of the block (00_scope.md). Their core is the rounding of R9 in terms of the values of patterns:
a rounded pattern is at least as near as both its neighbours, so no pattern is nearer, and infinity is reached exactly from the
overflow threshold on. -/

namespace Sys2Proof.Machine

/-- Where rounding to an integer lies halfway between two integers, it takes the even one. -/
theorem roundEven_tie_even (n d : Nat) (hd : 0 < d)
    (h : 2 * n = (2 * roundEven n d + 1) * d ∨ 2 * (roundEven n d * d) = 2 * n + d) : roundEven n d % 2 = 0 := by
  have hdiv := Nat.div_add_mod n d
  have hmod := Nat.mod_lt n hd
  unfold roundEven at *
  generalize n / d = q at *
  generalize n % d = r at *
  have e1 : (2 * (q + 1) + 1) * d = 2 * (d * q) + 3 * d := by ring
  have e2 : (q + 1) * d = d * q + d := by ring
  have e3 : (2 * q + 1) * d = 2 * (d * q) + d := by ring
  have e4 : q * d = d * q := Nat.mul_comm q d
  split at h
  · rw [e1, e2] at h
    rw [if_pos ‹_›]
    omega
  · rw [e3, e4] at h
    rw [if_neg ‹_›]
    omega

/-- The value of a pattern given by the exponent `s` of its grid and its significand `k`, which may be the carry `2 ^ p`. -/
theorem magUnits_binade (p s k : Nat) (hp : 0 < p) (hk : k ≤ 2 ^ p) (hs : 0 < s → 2 ^ (p - 1) ≤ k) :
    magUnits p (s * 2 ^ (p - 1) + k) = k * 2 ^ s := by
  have hP : 0 < 2 ^ (p - 1) := by positivity
  have hp2 : 2 ^ p = 2 * 2 ^ (p - 1) := by rw [← pow_succ', Nat.sub_add_cancel hp]
  unfold magUnits
  generalize 2 ^ (p - 1) = P at *
  rw [Nat.mul_comm s P, Nat.mul_add_div hP, Nat.mul_add_mod]
  rcases Nat.lt_or_ge k P with hlt | hge
  · have h0 : s = 0 := by
      by_contra hne
      exact absurd (hs (Nat.pos_of_ne_zero hne)) (by omega)
    simp [h0, Nat.div_eq_of_lt hlt]
  · obtain ⟨f, rfl⟩ := Nat.exists_eq_add_of_le hge
    rcases Nat.lt_or_ge f P with hf | hf
    · rw [Nat.add_div_left f hP, Nat.add_mod_left, Nat.div_eq_of_lt hf, Nat.mod_eq_of_lt hf]
      simp
    · obtain rfl : f = P := by omega
      rw [← Nat.two_mul, Nat.mul_div_cancel _ hP, Nat.mul_mod_left]
      simp only [Nat.add_eq_zero_iff, OfNat.ofNat_ne_zero, and_false, if_false, Nat.add_zero]
      rw [show s + 2 - 1 = s + 1 by omega]
      ring

/-- The next pattern's value is at least one step of the grid away. -/
theorem magUnits_binade_succ (p s k : Nat) (hp : 0 < p) (hk : k ≤ 2 ^ p) (hs : 0 < s → 2 ^ (p - 1) ≤ k) :
    (k + 1) * 2 ^ s ≤ magUnits p (s * 2 ^ (p - 1) + k + 1) := by
  have hP : 0 < 2 ^ (p - 1) := by positivity
  have hp2 : 2 ^ p = 2 * 2 ^ (p - 1) := by rw [← pow_succ', Nat.sub_add_cancel hp]
  rcases Nat.lt_or_ge k (2 ^ p) with hlt | hge
  · rw [Nat.add_assoc, magUnits_binade p s (k + 1) hp hlt fun h => by have := hs h; omega]
  · have e : s * 2 ^ (p - 1) + k + 1 = (s + 1) * 2 ^ (p - 1) + (2 ^ (p - 1) + 1) := by
      rw [Nat.add_mul]
      omega
    rw [e, magUnits_binade p (s + 1) (2 ^ (p - 1) + 1) hp (by omega) (by omega), pow_succ', ← Nat.mul_assoc]
    exact Nat.mul_le_mul_right _ (by omega)

/-- The parts of a rounded pattern: the exponent of the grid and the significand, a real of a binade above the subnormals being
at least the binade's first value. -/
theorem rnRaw_parts (p n d : Nat) (hp : 0 < p) (hd : 0 < d) :
    ∃ s k, rnRaw p n d = s * 2 ^ (p - 1) + k ∧ k = roundEven n (d * 2 ^ s) ∧ k ≤ 2 ^ p ∧
      (0 < s → 2 ^ (p - 1) ≤ k ∧ 2 ^ (p - 1) * (d * 2 ^ s) ≤ n) := by
  obtain ⟨hk, hlo⟩ := roundEven_binade p n d hp hd
  obtain ⟨-, hq⟩ := shift_bounds p (n / d) hp
  refine ⟨_, _, rfl, rfl, hk, fun h => ⟨hlo h, ?_⟩⟩
  have hn := (Nat.le_div_iff_mul_le hd).1 (hq h)
  rw [pow_add] at hn
  calc _ = 2 ^ (Nat.log2 (n / d) - (p - 1)) * 2 ^ (p - 1) * d := by ring
    _ ≤ n := hn

/-- Adding a multiple of the binade's length leaves a pattern's last bit to its significand. -/
theorem mul_binade_even (p s : Nat) (hp : 1 < p) : s * 2 ^ (p - 1) % 2 = 0 := by
  rw [show p - 1 = (p - 2) + 1 by omega, pow_succ, ← Nat.mul_assoc, Nat.mul_mod_left]

/-- A real is at most halfway from its rounding to the next pattern, and halfway only from an even pattern. -/
theorem rnRaw_above (p n d : Nat) (hp : 1 < p) (hd : 0 < d) :
    2 * n ≤ (magUnits p (rnRaw p n d) + magUnits p (rnRaw p n d + 1)) * d ∧
    (2 * n = (magUnits p (rnRaw p n d) + magUnits p (rnRaw p n d + 1)) * d → rnRaw p n d % 2 = 0) := by
  obtain ⟨s, k, hm, hk, hk2, hs⟩ := rnRaw_parts p n d (by omega) hd
  have hD : 0 < d * 2 ^ s := by positivity
  have hval := magUnits_binade p s k (by omega) hk2 fun h => (hs h).1
  have hsucc := magUnits_binade_succ p s k (by omega) hk2 fun h => (hs h).1
  have heven := mul_binade_even p s hp
  obtain ⟨hnear, -⟩ := roundEven_near n (d * 2 ^ s) hD
  have htie := roundEven_tie_even n (d * 2 ^ s) hD
  rw [← hk] at hnear htie
  rw [hm, hval]
  have hgap : (2 * k + 1) * (d * 2 ^ s) ≤ (k * 2 ^ s + magUnits p (s * 2 ^ (p - 1) + k + 1)) * d :=
    calc _ = (k * 2 ^ s + (k + 1) * 2 ^ s) * d := by ring
      _ ≤ _ := Nat.mul_le_mul_right _ (Nat.add_le_add_left hsucc _)
  refine ⟨hnear.trans hgap, fun h => ?_⟩
  have := htie (.inl (by omega))
  omega

/-- A real is at least halfway from the pattern before its rounding, and halfway only from an even rounding. -/
theorem rnRaw_below (p n d j : Nat) (hp : 1 < p) (hd : 0 < d) (hj : rnRaw p n d = j + 1) :
    (magUnits p j + magUnits p (j + 1)) * d ≤ 2 * n ∧
    ((magUnits p j + magUnits p (j + 1)) * d = 2 * n → (j + 1) % 2 = 0) := by
  obtain ⟨s, k, hm, hk, hk2, hs⟩ := rnRaw_parts p n d (by omega) hd
  have hD : 0 < d * 2 ^ s := by positivity
  have hval := magUnits_binade p s k (by omega) hk2 fun h => (hs h).1
  have heven := mul_binade_even p s hp
  obtain ⟨-, hnear⟩ := roundEven_near n (d * 2 ^ s) hD
  have htie := roundEven_tie_even n (d * 2 ^ s) hD
  rw [← hk] at hnear htie
  rw [← hm, hj] at hval
  by_cases hfirst : 0 < s ∧ k = 2 ^ (p - 1)
  · -- the first value of a binade: the real is at or above it, and the step below is smaller
    obtain ⟨hs0, rfl⟩ := hfirst
    have hlt : magUnits p j < magUnits p (j + 1) := (magUnits_lt_iff p j (j + 1) (by omega)).2 (by omega)
    have hn : magUnits p (j + 1) * d ≤ n := by
      rw [hval]
      calc _ = 2 ^ (p - 1) * (d * 2 ^ s) := by ring
        _ ≤ n := (hs hs0).2
    have hstep := Nat.mul_lt_mul_of_pos_right hlt hd
    rw [Nat.add_mul]
    constructor <;> omega
  · have hk0 : 0 < k := by
      rcases Nat.eq_zero_or_pos s with rfl | hs0
      · omega
      · have := (hs hs0).1
        have : 0 < 2 ^ (p - 1) := by positivity
        omega
    obtain ⟨i, rfl⟩ : ∃ i, k = i + 1 := ⟨k - 1, by omega⟩
    have hprev := magUnits_binade p s i (by omega) (by omega) fun h => by
      have := (hs h).1
      omega
    rw [show s * 2 ^ (p - 1) + i = j by omega] at hprev
    rw [hval, hprev, show (i * 2 ^ s + (i + 1) * 2 ^ s) * d = (2 * i + 1) * (d * 2 ^ s) by ring]
    have e : 2 * ((i + 1) * (d * 2 ^ s)) = (2 * i + 1) * (d * 2 ^ s) + d * 2 ^ s := by ring
    refine ⟨by omega, fun h => ?_⟩
    have := htie (.inr (by omega))
    omega

/-- No other pattern is nearer to a real than its rounding, and one as near leaves an even rounding. -/
theorem rnRaw_nearest (p n d m : Nat) (hp : 1 < p) (hd : 0 < d) (hm : m ≠ rnRaw p n d) :
    ((n : Int) - magUnits p (rnRaw p n d) * d).natAbs < ((n : Int) - magUnits p m * d).natAbs ∨
    (((n : Int) - magUnits p (rnRaw p n d) * d).natAbs = ((n : Int) - magUnits p m * d).natAbs ∧ rnRaw p n d % 2 = 0) := by
  rcases Nat.lt_or_gt_of_ne hm with hlt | hgt
  · obtain ⟨j, hj⟩ : ∃ j, rnRaw p n d = j + 1 := ⟨rnRaw p n d - 1, by omega⟩
    obtain ⟨hle, htie⟩ := rnRaw_below p n d j hp hd hj
    have hmj := Nat.mul_le_mul_right d ((magUnits_le_iff p m j (by omega)).2 (by omega))
    have hjj := Nat.mul_lt_mul_of_pos_right ((magUnits_lt_iff p j (j + 1) (by omega)).2 (by omega)) hd
    rw [Nat.add_mul] at hle htie
    rw [hj]
    simp only [← Nat.cast_mul]
    omega
  · obtain ⟨hle, htie⟩ := rnRaw_above p n d hp hd
    have hmj := Nat.mul_le_mul_right d ((magUnits_le_iff p (rnRaw p n d + 1) m (by omega)).2 hgt)
    have hjj := Nat.mul_lt_mul_of_pos_right
      ((magUnits_lt_iff p (rnRaw p n d) (rnRaw p n d + 1) (by omega)).2 (by omega)) hd
    rw [Nat.add_mul] at hle htie
    simp only [← Nat.cast_mul]
    omega

/-- A rounding reaches an even pattern exactly from halfway to it on. -/
theorem le_rnRaw_iff (p n d j : Nat) (hp : 1 < p) (hd : 0 < d) (hj : (j + 1) % 2 = 0) :
    j + 1 ≤ rnRaw p n d ↔ (magUnits p j + magUnits p (j + 1)) * d ≤ 2 * n := by
  have hmono : ∀ a b, a ≤ b → magUnits p a * d ≤ magUnits p b * d := fun a b h =>
    Nat.mul_le_mul_right d ((magUnits_le_iff p a b (by omega)).2 h)
  rw [Nat.add_mul]
  constructor
  · intro h
    obtain ⟨i, hi⟩ : ∃ i, rnRaw p n d = i + 1 := ⟨rnRaw p n d - 1, by omega⟩
    obtain ⟨hle, -⟩ := rnRaw_below p n d i hp hd hi
    have h1 := hmono j i (by omega)
    have h2 := hmono (j + 1) (i + 1) (by omega)
    rw [Nat.add_mul] at hle
    omega
  · intro h
    by_contra hlt
    obtain ⟨hle, htie⟩ := rnRaw_above p n d hp hd
    have h1 := hmono (rnRaw p n d) j (by omega)
    have h2 := hmono (rnRaw p n d + 1) (j + 1) (by omega)
    rw [Nat.add_mul] at hle htie
    have heven := htie (by omega)
    have hstep := Nat.mul_lt_mul_of_pos_right ((magUnits_lt_iff p (rnRaw p n d) j (by omega)).2 (by omega)) hd
    omega

/-- Binary32 overflows exactly from the threshold of R9 on. -/
theorem inf32_le_rnRaw_iff (n d : Nat) (hd : 0 < d) : inf32 ≤ rnRaw 24 n d ↔ (2 ^ 25 - 1) * 2 ^ 252 * d ≤ n := by
  have hthr : magUnits 24 (inf32 - 1) + magUnits 24 (inf32 - 1 + 1) = 2 * ((2 ^ 25 - 1) * 2 ^ 252) := by decide +kernel
  have h := le_rnRaw_iff 24 n d (inf32 - 1) (by omega) hd (by decide)
  rw [hthr, Nat.mul_assoc 2] at h
  rw [show inf32 = inf32 - 1 + 1 by decide, h]
  omega

/-- A finite value has a pattern below infinity's. -/
theorem isFin32_iff (x : F32) : isFin32 x = true ↔ mag32 x < inf32 := by simp [isFin32]

/-- A NaN has a pattern above infinity's. -/
theorem isNaN32_iff (x : F32) : isNaN32 x = true ↔ inf32 < mag32 x := by simp [isNaN32]

/-- An infinity has infinity's pattern. -/
theorem isInf32_iff (x : F32) : isInf32 x = true ↔ mag32 x = inf32 := by simp [isInf32]

/-- The value of a binary32 is its sign and the value of its pattern. -/
theorem int32_eq_signedNum (x : F32) : int32 x = signedNum (sign32 x) (magUnits 24 (mag32 x)) := rfl

/-- A sign does not change a magnitude. -/
theorem natAbs_signedNum (neg : Bool) (n : Nat) : (signedNum neg n).natAbs = n := by
  cases neg <;> simp [signedNum]

/-- A nonzero numerator is negative exactly if its sign says so. -/
theorem signedNum_neg_iff (neg : Bool) (n : Nat) (hn : 0 < n) : signedNum neg n < 0 ↔ neg = true := by
  cases neg <;> simp [signedNum, hn]

/-- Two magnitudes with the same sign are as far from each other as without it. -/
theorem natAbs_signedNum_sub_same (neg : Bool) (a b d : Nat) :
    (signedNum neg a - signedNum neg b * d).natAbs = ((a : Int) - b * d).natAbs := by
  cases neg
  · rfl
  · rw [← Int.natAbs_neg]
    congr 1
    simp only [signedNum, if_true]
    ring

/-- Two magnitudes of opposite signs are as far from each other as their sum. -/
theorem natAbs_signedNum_sub_opposite (neg : Bool) (a b d : Nat) :
    (signedNum neg a - signedNum (!neg) b * d).natAbs = a + b * d := by
  have h : signedNum neg a - signedNum (!neg) b * d = signedNum neg (a + b * d) := by
    cases neg <;> simp [signedNum]
    ring
  rw [h, natAbs_signedNum]

/-- No other signed value is nearer to a signed real than its rounding: one of the same sign by `rnRaw_nearest`, one of the
other sign since it lies beyond 0. -/
theorem rnRaw_nearest_signed (p n d m : Nat) (neg neg' : Bool) (hp : 1 < p) (hd : 0 < d)
    (hne : signedNum neg' (magUnits p m) ≠ signedNum neg (magUnits p (rnRaw p n d))) :
    (signedNum neg n - signedNum neg (magUnits p (rnRaw p n d)) * d).natAbs <
      (signedNum neg n - signedNum neg' (magUnits p m) * d).natAbs ∨
    ((signedNum neg n - signedNum neg (magUnits p (rnRaw p n d)) * d).natAbs =
      (signedNum neg n - signedNum neg' (magUnits p m) * d).natAbs ∧ rnRaw p n d % 2 = 0) := by
  rw [natAbs_signedNum_sub_same]
  by_cases hsign : neg' = neg
  · subst hsign
    rw [natAbs_signedNum_sub_same]
    exact rnRaw_nearest p n d m hp hd fun h => hne (by rw [h])
  · obtain rfl : neg' = !neg := by cases neg <;> cases neg' <;> simp_all
    have hzero : magUnits p 0 = 0 := by simp [magUnits]
    rw [natAbs_signedNum_sub_opposite]
    by_cases h0 : rnRaw p n d = 0
    · have hm : 0 < magUnits p m := by
        by_contra hm0
        rw [h0, hzero, Nat.eq_zero_of_not_pos hm0] at hne
        exact hne (by cases neg <;> rfl)
      have := Nat.mul_pos hm hd
      rw [h0, hzero]
      omega
    · have := rnRaw_nearest p n d 0 hp hd (Ne.symm h0)
      rw [hzero] at this
      omega

/-- `rn32` is the rounding of R9. -/
theorem isRN32_rn32 (neg : Bool) (n d : Nat) (hd : 0 < d) : IsRN32 (signedNum neg n) d (rn32 neg n d) := by
  have hov := inf32_le_rnRaw_iff (n * 2 ^ 149) d hd
  have hmag : mag32 (rn32 neg n d) = min (rnRaw 24 (n * 2 ^ 149) d) inf32 := by rw [mag32_rn32, rnMag_eq]
  unfold IsRN32
  rw [natAbs_signedNum]
  split
  next hthr =>
    have hn : 0 < n := Nat.pos_of_mul_pos_right ((by positivity : 0 < (2 ^ 25 - 1) * 2 ^ 252 * d).trans_le hthr)
    rw [isInf32_iff, hmag, sign32_rn32]
    exact ⟨Nat.min_eq_right (hov.2 hthr), by simp [signedNum_neg_iff neg n hn]⟩
  next hthr =>
    have hfin : rnRaw 24 (n * 2 ^ 149) d < inf32 := Nat.lt_of_not_le fun h => hthr (hov.1 h)
    rw [Nat.min_eq_left hfin.le] at hmag
    have hval : int32 (rn32 neg n d) = signedNum neg (magUnits 24 (rnRaw 24 (n * 2 ^ 149) d)) := by
      rw [int32_eq_signedNum, sign32_rn32, hmag]
    have hscale : signedNum neg n * 2 ^ 149 = signedNum neg (n * 2 ^ 149) := by cases neg <;> simp [signedNum]
    refine ⟨by rwa [isFin32_iff, hmag], fun z _ hne => ?_⟩
    rw [hval, int32_eq_signedNum z] at hne
    rw [hval, int32_eq_signedNum z, hscale, hmag]
    exact rnRaw_nearest_signed 24 _ d (mag32 z) neg (sign32 z) (by omega) hd hne

/-- What is `rn32` of a real is the rounding of that real. -/
theorem isRN32_of_eq_rn32 {neg : Bool} {n d : Nat} {k : Int} {y : F32} (hy : y = rn32 neg n d)
    (hk : signedNum neg n = k) (hd : 0 < d) : IsRN32 k d y := by
  subst hy hk
  exact isRN32_rn32 neg n d hd

/-! ## The operations of R9 -/

/-- A free NaN pattern is a NaN. -/
theorem isNaN32_nan32 (op : FloatOp) (a b : F32) : isNaN32 (nan32 op a b) = true := by
  unfold nan32
  simp only
  split
  · assumption
  · have hmag : mag32 (Config.nanRaw op a b ||| 0x7FC00000#32) =
        ((Config.nanRaw op a b).setWidth 31 ||| 0x7FC00000#31).toNat := by
      rw [mag32, ← BitVec.toNat_setWidth, BitVec.setWidth_or]
      rfl
    rw [isNaN32_iff, hmag, BitVec.toNat_or]
    exact lt_of_lt_of_le (by decide) Nat.right_le_or

/-- A sum of finite values is the exact sum rounded once. -/
theorem isRN32_add32 (a b : F32) (ha : isFin32 a = true) (hb : isFin32 b = true) :
    IsRN32 (int32 a + int32 b) (2 ^ 149) (add32 a b) := by
  obtain ⟨neg, hsum, hval⟩ := add32_finite a b ha hb
  exact isRN32_of_eq_rn32 hsum hval (by positivity)

/-- An exact zero sum is `-0.0` from two negative operands, else `+0.0`. -/
theorem add32_exact_zero (a b : F32) (ha : isFin32 a = true) (hb : isFin32 b = true) (h0 : int32 a + int32 b = 0) :
    add32 a b = if sign32 a && sign32 b then 0x80000000#32 else 0#32 := by
  simp only [add32, isNaN32_of_isFin32 a ha, isNaN32_of_isFin32 b hb, isInf32_of_isFin32 a ha, isInf32_of_isFin32 b hb, h0,
    Bool.or_self, Bool.false_eq_true, if_false, if_true]
  cases sign32 a && sign32 b <;> rfl

/-- A difference of finite values is the exact difference rounded once. -/
theorem isRN32_sub32 (a b : F32) (ha : isFin32 a = true) (hb : isFin32 b = true) :
    IsRN32 (int32 a - int32 b) (2 ^ 149) (sub32 a b) := by
  have h := isRN32_add32 a (neg32 b) ha (by rwa [isFin32_neg32])
  rwa [int32_neg32, ← sub_eq_add_neg] at h

/-- A product of finite values is the rounding of the product of the magnitudes, with the product of the signs. -/
theorem mul32_eq_rn32 (a b : F32) (ha : isFin32 a = true) (hb : isFin32 b = true) :
    mul32 a b = rn32 (sign32 a != sign32 b) (units32 a * units32 b) (2 ^ 298) := by
  simp only [mul32, isNaN32_of_isFin32 a ha, isNaN32_of_isFin32 b hb, isInf32_of_isFin32 a ha, isInf32_of_isFin32 b hb,
    Bool.or_self, Bool.false_eq_true, if_false]

/-- The product of the signs and of the magnitudes is the product of the values. -/
theorem signedNum_product (a b : F32) :
    signedNum (sign32 a != sign32 b) (units32 a * units32 b) = int32 a * int32 b := by
  unfold signedNum int32
  cases sign32 a <;> cases sign32 b <;> simp

/-- A product of finite values is the exact product rounded once. -/
theorem isRN32_mul32 (a b : F32) (ha : isFin32 a = true) (hb : isFin32 b = true) :
    IsRN32 (int32 a * int32 b) (2 ^ 298) (mul32 a b) := by
  rw [mul32_eq_rn32 a b ha hb, ← signedNum_product]
  -- `with_reducible`: `2 ^ 298` is to be compared as it stands and not evaluated
  with_reducible exact isRN32_rn32 _ _ _ (by positivity)

/-- The numerator of a quotient with the sign of the quotient. -/
theorem signedNum_quotient (a b : F32) :
    signedNum (sign32 a != sign32 b) (units32 a) = if sign32 b then -int32 a else int32 a := by
  unfold signedNum int32
  cases sign32 a <;> cases sign32 b <;> simp

/-- A quotient of finite values, the divisor not being 0, is the exact quotient rounded once. -/
theorem isRN32_div32 (a b : F32) (ha : isFin32 a = true) (hb : isFin32 b = true) (h0 : mag32 b ≠ 0) :
    IsRN32 (if sign32 b then -int32 a else int32 a) (units32 b) (div32 a b) :=
  isRN32_of_eq_rn32 (div32_finite a b ha hb h0) (signedNum_quotient a b)
    (Nat.pos_of_ne_zero fun h => h0 ((units32_eq_zero b).1 h))

/-- A nonzero finite value over zero is an infinity with the product of the signs. -/
theorem div32_by_zero (a b : F32) (ha : isFin32 a = true) (hb : isFin32 b = true) (h0 : mag32 b = 0) (hne : mag32 a ≠ 0) :
    div32 a b = pack32 (sign32 a != sign32 b) inf32 := by
  simp [div32, isNaN32_of_isFin32 a ha, isNaN32_of_isFin32 b hb, isInf32_of_isFin32 a ha, isInf32_of_isFin32 b hb, h0, hne]

/-- Zero over zero is a NaN. -/
theorem isNaN32_div32_zero_zero (a b : F32) (ha : isFin32 a = true) (hb : isFin32 b = true) (h0 : mag32 b = 0)
    (ha0 : mag32 a = 0) : isNaN32 (div32 a b) = true := by
  simp [div32, isNaN32_of_isFin32 a ha, isNaN32_of_isFin32 b hb, isInf32_of_isFin32 a ha, isInf32_of_isFin32 b hb, h0, ha0,
    isNaN32_nan32]

/-- An operation on a NaN gives a NaN, and a comparison with a NaN is false. -/
theorem nan_operand (a b : F32) (h : isNaN32 a = true ∨ isNaN32 b = true) :
    isNaN32 (add32 a b) = true ∧ isNaN32 (mul32 a b) = true ∧ isNaN32 (div32 a b) = true ∧
    lt32 a b = false ∧ le32 a b = false := by
  have hor : (isNaN32 a || isNaN32 b) = true := by simpa using h
  refine ⟨by simp [add32, hor, isNaN32_nan32], by simp [mul32, hor, isNaN32_nan32], by simp [div32, hor, isNaN32_nan32],
    ?_, ?_⟩
  · rcases h with h | h <;> simp [lt32, h]
  · rcases h with h | h <;> simp [le32, h]

/-- An infinity is no NaN. -/
theorem isNaN32_of_isInf32 (x : F32) (h : isInf32 x = true) : isNaN32 x = false := by
  rw [isInf32_iff] at h
  simp [isNaN32, h]

/-- The sum of two infinities of opposite signs is a NaN. -/
theorem isNaN32_add32_inf_inf (a b : F32) (ha : isInf32 a = true) (hb : isInf32 b = true) (hs : sign32 a ≠ sign32 b) :
    isNaN32 (add32 a b) = true := by
  simp [add32, isNaN32_of_isInf32 a ha, isNaN32_of_isInf32 b hb, ha, hb, hs, isNaN32_nan32]

/-- The product of an infinity and a zero, in either order, is a NaN. -/
theorem isNaN32_mul32_inf_zero (a b : F32) (ha : isInf32 a = true) (hb : mag32 b = 0) :
    isNaN32 (mul32 a b) = true ∧ isNaN32 (mul32 b a) = true := by
  have hfin : isFin32 b = true := by
    rw [isFin32_iff, hb]
    decide
  constructor <;>
  simp [mul32, isNaN32_of_isInf32 a ha, isNaN32_of_isFin32 b hfin, isInf32_of_isFin32 b hfin, ha, hb, isNaN32_nan32]

/-- The quotient of two infinities is a NaN. -/
theorem isNaN32_div32_inf_inf (a b : F32) (ha : isInf32 a = true) (hb : isInf32 b = true) :
    isNaN32 (div32 a b) = true := by
  simp [div32, isNaN32_of_isInf32 a ha, isNaN32_of_isInf32 b hb, ha, hb, isNaN32_nan32]

/-- Settles O18: on finite operands every operation is `rn32` of the exact result, which is the rounding of R9
(`isRN32_rn32`); the special cases are those of the operations' definitions. -/
theorem floatArithmeticRounds : Obligations.FloatArithmeticRounds := by
  refine ⟨fun a b ha hb => ⟨isRN32_add32 a b ha hb, add32_exact_zero a b ha hb, isRN32_sub32 a b ha hb, ?product,
    ?productSign, fun h0 => ⟨isRN32_div32 a b ha hb h0, ?quotientSign⟩, fun h0 hne => ?overZero,
    isNaN32_div32_zero_zero a b ha hb⟩, nan_operand, fun a b ha => ⟨isNaN32_add32_inf_inf a b ha,
    isNaN32_mul32_inf_zero a b ha, isNaN32_div32_inf_inf a b ha⟩⟩
  case product => with_reducible exact isRN32_mul32 a b ha hb
  case productSign => rw [mul32_eq_rn32 a b ha hb, sign32_rn32]
  case quotientSign => rw [div32_finite a b ha hb h0, sign32_rn32]
  case overZero =>
    rw [div32_by_zero a b ha hb h0 hne, isInf32_iff]
    exact ⟨mag32_pack32 _ _ (by decide), sign32_pack32 _ _ (by decide)⟩

/-! ## One step, and the state after reset -/

/-- Settles O5: of the three things a step can do, only the decoded instruction is left. -/
theorem stepRunsDecoded : Obligations.StepRunsDecoded := by
  intro s i hrst hdec
  rcases step_cases s with ⟨h, -⟩ | ⟨-, ⟨e, h⟩, -⟩ | ⟨-, j, h, hstep⟩
  · simp [hrst] at h
  · simp [hdec] at h
  · cases hdec.symm.trans h
    exact hstep

/-- After reset the readers, the oscillators and the buffers carry no flag and the cache is empty, so that `Wired` asks for
nothing but the lengths. -/
theorem resetWith_wired (c : Params) (hc : c.wf) : Wired (State.resetWith c) := by
  have hsizes : SizesOk (State.resetWith c) := ⟨hc, by simp [State.resetWith, Params.nPriv]⟩
  have hpriv : ∀ j : Nat, (State.resetWith c).privOk[j]? ≠ some true := by
    simp [State.resetWith, List.getElem?_replicate]
  have htables : TablesOk (State.resetWith c) :=
    ⟨List.Pairwise.nil, Nat.zero_le _, by simp [State.resetWith], fun e he => absurd he (Nat.not_lt_zero e),
      fun j _ hj => absurd hj (hpriv j)⟩
  refine ⟨hsizes, htables, fun l hl => ?_, fun o ho hcfg => ?_⟩
  · rw [List.eq_of_mem_replicate hl]
    rfl
  · rw [List.eq_of_mem_replicate ho] at hcfg
    exact absurd hcfg Bool.false_ne_true

/-- After reset every phase is `+0.0` and no setter has run. -/
theorem resetWith_phasesOk (c : Params) : PhasesOk (State.resetWith c) := by
  refine ⟨fun o ho => ?_, fun v hv => ?_⟩
  · rw [List.eq_of_mem_replicate ho]
    decide
  · rw [List.eq_of_mem_replicate hv]
    decide

/-- After reset every envelope is in Init at `+0.0` and no setter has run. -/
theorem resetWith_envelopesOk (c : Params) : EnvelopesOk (State.resetWith c) := by
  intro e he
  rw [List.eq_of_mem_replicate he]
  decide

/-- Settles O57: the three invariants for any record, of which that of `State.reset` is one. -/
theorem invariantsAtReset : Obligations.InvariantsAtReset :=
  ⟨fun c hc => ⟨resetWith_wired c hc, resetWith_phasesOk c, resetWith_envelopesOk c⟩,
    resetWith_wired Config.integrator (by decide), resetWith_phasesOk _, resetWith_envelopesOk _⟩

end Sys2Proof.Machine
end

section
/-! The statements on the state of the block (10_state.md). What a completing step can do is said once (`Names`, `Writes`,
`step_ends`); the frame of a command, the invariant `Wired` and the range of every phase are then case splits over what was
written, each case a fact about the one register file or table it touches. -/

namespace Sys2Proof

/-! ## What a command word names -/

/-- A decoded `CVT` word names the conversion of some pair of formats (R116). -/
theorem decodeCvt_ok (c : BitVec 32) (i : Instr) (h : decodeCvt c = .ok i) : ∃ sf df, i = cvtInstr sf df := by
  unfold decodeCvt at h
  split at h
  · split at h
    · cases h
      exact ⟨_, _, rfl⟩
    · cases h
  · cases h

/-- A decoded `SMP` word names a sample command (R508 to R512). -/
theorem decodeSmp_ok (c : BitVec 32) (i : Instr) (h : decodeSmp c = .ok i) : ∃ wk df dc, i = smpInstr wk df dc := by
  unfold decodeSmp at h
  split at h
  · split at h
    · cases h
    · split at h
      · cases h
      · cases h
        exact ⟨_, _, _, rfl⟩
  · cases h

/-- A decoded word with a kind, a duty and an instance names the instance in its field `INST` (R80, R81). -/
theorem decodeKindInst_ok (mk : Wave → Duty → BitVec 8 → Instr) (c : BitVec 32) (i : Instr)
    (h : decodeKindInst mk c = .ok i) : ∃ wk dc, i = mk wk dc (instField c) := by
  unfold decodeKindInst at h
  split at h
  · split at h
    · cases h
    · cases h
      exact ⟨_, _, rfl⟩
  · cases h

/-- A decoded `TBL.ALLOC` word (R546). -/
theorem decodeAlloc_ok (c : BitVec 32) (i : Instr) (h : decodeAlloc c = .ok i) : ∃ wk dc, i = .tblAlloc wk dc := by
  unfold decodeAlloc at h
  split at h
  · split at h
    · cases h
    · cases h
      exact ⟨_, _, rfl⟩
  · cases h

/-- A decoded word with a format and an instance names the instance in its field `INST` (R80, R81). -/
theorem decodeFmtInst_ok (mk : Fmt → BitVec 8 → Instr) (c : BitVec 32) (i : Instr)
    (h : decodeFmtInst mk c = .ok i) : ∃ df, i = mk df (instField c) := by
  unfold decodeFmtInst at h
  split at h
  · split at h
    · cases h
    · cases h
      exact ⟨_, rfl⟩
  · cases h

/-- A decoded word with an instance only names the instance in its field `INST` (R80, R81). -/
theorem decodeInst_ok (mk : BitVec 8 → Instr) (c : BitVec 32) (i : Instr) (h : decodeInst mk c = .ok i) :
    i = mk (instField c) := by
  unfold decodeInst at h
  split at h
  · cases h
    rfl
  · cases h

/-- A decoded word with a boolean and an instance names the instance in its field `INST` (R80, R81). -/
theorem decodeBoolInst_ok (mk : Bool → BitVec 8 → Instr) (c : BitVec 32) (i : Instr)
    (h : decodeBoolInst mk c = .ok i) : ∃ g, i = mk g (instField c) := by
  unfold decodeBoolInst at h
  split at h
  · cases h
    exact ⟨_, rfl⟩
  · cases h

/-- The command word `c` names the instruction: the row of the opcode map (30_encoding.md R86) for its opcode, and where the
row has one, the instance in the field `INST`. -/
inductive Names (c : BitVec 32) : Instr → Prop
  | cvt (hopc : opcField c = 0x01#8) (sf df : Fmt) : Names c (cvtInstr sf df)
  | smp (hopc : opcField c = 0x10#8) (wk : Wave) (df : Fmt) (dc : Duty) : Names c (smpInstr wk df dc)
  | oscCfg (hopc : opcField c = 0x11#8) (wk : Wave) (dc : Duty) : Names c (.oscCfg wk dc (instField c))
  | oscNext (hopc : opcField c = 0x12#8) (df : Fmt) : Names c (.oscNext df (instField c))
  | oscAt (hopc : opcField c = 0x13#8) (df : Fmt) : Names c (.oscAt df (instField c))
  | tblBuild (hopc : opcField c = 0x18#8) (wk : Wave) (dc : Duty) : Names c (.tblBuild wk dc (instField c))
  | tblAlloc (hopc : opcField c = 0x19#8) (wk : Wave) (dc : Duty) : Names c (.tblAlloc wk dc)
  | lutBind (hopc : opcField c = 0x1A#8) : Names c (.lutBind (instField c))
  | lutNext (hopc : opcField c = 0x1B#8) : Names c (.lutNext (instField c))
  | lutAt (hopc : opcField c = 0x1C#8) : Names c (.lutAt (instField c))
  | vsoSetMaster (hopc : opcField c = 0x20#8) : Names c (.vsoSetMaster (instField c))
  | vsoSetSlave (hopc : opcField c = 0x21#8) : Names c (.vsoSetSlave (instField c))
  | vsoSetPw (hopc : opcField c = 0x22#8) : Names c (.vsoSetPw (instField c))
  | vsoSetShape (hopc : opcField c = 0x23#8) : Names c (.vsoSetShape (instField c))
  | vsoSetSync (hopc : opcField c = 0x24#8) (g : Bool) : Names c (.vsoSetSync g (instField c))
  | vsoTick (hopc : opcField c = 0x25#8) : Names c (.vsoTick (instField c))
  | envSetAttack (hopc : opcField c = 0x30#8) : Names c (.envSetAttack (instField c))
  | envSetDecay (hopc : opcField c = 0x31#8) : Names c (.envSetDecay (instField c))
  | envSetRelease (hopc : opcField c = 0x32#8) : Names c (.envSetRelease (instField c))
  | envSetSustain (hopc : opcField c = 0x33#8) : Names c (.envSetSustain (instField c))
  | envTick (hopc : opcField c = 0x34#8) (g : Bool) : Names c (.envTick g (instField c))
  | envStat (hopc : opcField c = 0x35#8) : Names c (.envStat (instField c))

/-- The opcode map of R86 is a match on numbers; this is its opcode as a bit vector. -/
theorem opcField_eq_of_toNat (c : BitVec 32) (n : Nat) (h : (opcField c).toNat = n) : opcField c = BitVec.ofNat 8 n := by
  rw [← h, BitVec.ofNat_toNat, BitVec.setWidth_eq]

/-- A word the decoder accepts names what it decodes to. -/
theorem decode_names (c : BitVec 32) (i : Instr) (h : decode c = .ok i) : Names c i := by
  unfold decode at h
  split at h
  next hopc => obtain ⟨sf, df, rfl⟩ := decodeCvt_ok c i h; exact .cvt (opcField_eq_of_toNat c _ hopc) sf df
  next hopc => obtain ⟨wk, df, dc, rfl⟩ := decodeSmp_ok c i h; exact .smp (opcField_eq_of_toNat c _ hopc) wk df dc
  next hopc => obtain ⟨wk, dc, rfl⟩ := decodeKindInst_ok _ c i h; exact .oscCfg (opcField_eq_of_toNat c _ hopc) wk dc
  next hopc => obtain ⟨df, rfl⟩ := decodeFmtInst_ok _ c i h; exact .oscNext (opcField_eq_of_toNat c _ hopc) df
  next hopc => obtain ⟨df, rfl⟩ := decodeFmtInst_ok _ c i h; exact .oscAt (opcField_eq_of_toNat c _ hopc) df
  next hopc => obtain ⟨wk, dc, rfl⟩ := decodeKindInst_ok _ c i h; exact .tblBuild (opcField_eq_of_toNat c _ hopc) wk dc
  next hopc => obtain ⟨wk, dc, rfl⟩ := decodeAlloc_ok c i h; exact .tblAlloc (opcField_eq_of_toNat c _ hopc) wk dc
  next hopc => cases decodeInst_ok _ c i h; exact .lutBind (opcField_eq_of_toNat c _ hopc)
  next hopc => cases decodeInst_ok _ c i h; exact .lutNext (opcField_eq_of_toNat c _ hopc)
  next hopc => cases decodeInst_ok _ c i h; exact .lutAt (opcField_eq_of_toNat c _ hopc)
  next hopc => cases decodeInst_ok _ c i h; exact .vsoSetMaster (opcField_eq_of_toNat c _ hopc)
  next hopc => cases decodeInst_ok _ c i h; exact .vsoSetSlave (opcField_eq_of_toNat c _ hopc)
  next hopc => cases decodeInst_ok _ c i h; exact .vsoSetPw (opcField_eq_of_toNat c _ hopc)
  next hopc => cases decodeInst_ok _ c i h; exact .vsoSetShape (opcField_eq_of_toNat c _ hopc)
  next hopc => obtain ⟨g, rfl⟩ := decodeBoolInst_ok _ c i h; exact .vsoSetSync (opcField_eq_of_toNat c _ hopc) g
  next hopc => cases decodeInst_ok _ c i h; exact .vsoTick (opcField_eq_of_toNat c _ hopc)
  next hopc => cases decodeInst_ok _ c i h; exact .envSetAttack (opcField_eq_of_toNat c _ hopc)
  next hopc => cases decodeInst_ok _ c i h; exact .envSetDecay (opcField_eq_of_toNat c _ hopc)
  next hopc => cases decodeInst_ok _ c i h; exact .envSetRelease (opcField_eq_of_toNat c _ hopc)
  next hopc => cases decodeInst_ok _ c i h; exact .envSetSustain (opcField_eq_of_toNat c _ hopc)
  next hopc => obtain ⟨g, rfl⟩ := decodeBoolInst_ok _ c i h; exact .envTick (opcField_eq_of_toNat c _ hopc) g
  next hopc => cases decodeInst_ok _ c i h; exact .envStat (opcField_eq_of_toNat c _ hopc)
  next => cases h

end Sys2Proof

namespace Sys2Proof.Machine

/-! ## What a command writes -/

/-- The five setters of a variable-shape oscillator (48_vso.md R571 to R575) as `vsoSet` takes them: the number of the flag,
whether the operand is in contract, and the register written. -/
inductive VsoSetter (s : State) : Nat → Bool → (Vso → Vso) → Prop
  | master : VsoSetter s 0 (masterInContract (opaF32 s)) fun v => { v with mfreq := vsoFreq s.cfg (opaF32 s) }
  | slave : VsoSetter s 1 (slaveInContract s.cfg (opaF32 s)) fun v => { v with sfreq := vsoFreq s.cfg (opaF32 s) }
  | pulseWidth : VsoSetter s 2 (isFin32 (opaF32 s)) fun v => { v with pwReq := opaF32 s }
  | shape : VsoSetter s 3 (within32 zero32 (opaF32 s) one32) fun v => { v with shape := opaF32 s }
  | sync (g : Bool) : VsoSetter s 4 true fun v => { v with sync := g }

/-- All that a completing command can do to the state before it writes `ST` and `RES`, with its opcode and with the guards under
which it does it. Of the envelopes only the file and the instance are said. -/
inductive Writes (s : State) : State → Prop
  | nothing : Writes s s
  | oscCfg (wk : Wave) (dc : Duty) (hopc : opcField s.cmd = 0x11#8) (hwk : wk.isSourceKind = true) :
      Writes s (putOsc s (instField s.cmd) (oscConfigured wk dc (opbF32 s)))
  | oscNext (o : Osc) (hopc : opcField s.cmd = 0x12#8) (ho : getOsc s (instField s.cmd) = some o)
      (hfreq : freqInContract o.freq = true) : Writes s (putOsc s (instField s.cmd) (oscAdvanced s.cfg o))
  | tblBuild (wk : Wave) (dc : Duty) (hopc : opcField s.cmd = 0x18#8)
      (hlen : s.cfg.privLen[(instField s.cmd).toNat]? = some s.cfg.sampleRate) :
      Writes s (markPrivOk (fillTable s (privHandle (instField s.cmd).toNat) (tableWords s.cfg wk (opbF32 s) dc))
        (instField s.cmd).toNat)
  | tblAlloc (wk : Wave) (dc : Duty) (hopc : opcField s.cmd = 0x19#8) (hwk : wk.isSourceKind = true)
      (hroom : s.cnt ≠ s.cfg.cacheCap) :
      Writes s (pushTag (fillTable s (cacheHandle s.cnt) (tableWords s.cfg wk (opbF32 s) dc))
        { kind := wk, duty := dc, freq := opbF32 s })
  | lutBind (hopc : opcField s.cmd = 0x1A#8) (hh : handleValid s (opaHandle s) = true) :
      Writes s (putLut s (instField s.cmd) { bound := true, tbl := opaHandle s, idx := 0#32 })
  | lutNext (l : Lut) (hopc : opcField s.cmd = 0x1B#8) (hl : getLut s (instField s.cmd) = some l)
      (hbound : l.bound = true) :
      Writes s (putLut s (instField s.cmd) { l with idx := BitVec.ofNat 32 ((l.idx.toNat + 1) % s.cfg.sampleRate) })
  | vsoSet (k : Nat) (ok : Bool) (f : Vso → Vso) (v : Vso)
      (hopc : opcField s.cmd ∈ [0x20#8, 0x21#8, 0x22#8, 0x23#8, 0x24#8]) (hv : getVso s (instField s.cmd) = some v)
      (hset : VsoSetter s k ok f) :
      Writes s (putVso s (instField s.cmd) { f v with wr := setFlag v.wr k, undef := markUndef v.undef k ok })
  | vsoTick (v : Vso) (hopc : opcField s.cmd = 0x25#8) (hv : getVso s (instField s.cmd) = some v)
      (hin : vsoInContract v = true) : Writes s (putVso s (instField s.cmd) (vsoTick v).1)
  | env (e : Env) (n : Nat) (hopc : opcField s.cmd ∈ [0x30#8, 0x31#8, 0x32#8, 0x33#8, 0x34#8]) :
      Writes s (drawFree (putEnv s (instField s.cmd) e) n)

/-- The state `t` is what a completing command leaves of `s`: something it writes, then `ST` and `RES`. -/
def Ends (s t : State) : Prop := ∃ u st w, Writes s u ∧ t = finish u st w

/-- A command that writes `ST` and `RES` only ends. -/
theorem Ends.of_finish {s t : State} {st : Status} {w : Word} (h : t = finish s st w) : Ends s t :=
  ⟨s, st, w, .nothing, h⟩

/-- A command that writes one of the listed things and then `ST` and `RES` ends. -/
theorem Ends.of_writes {s u t : State} {st : Status} {w : Word} (hw : Writes s u) (h : t = finish u st w) : Ends s t :=
  ⟨u, st, w, hw, h⟩

/-- The five setters of a variable-shape oscillator write their instance or nothing. -/
theorem vsoSet_ends {s t : State} {k : Nat} {ok : Bool} {f : Vso → Vso} (hset : VsoSetter s k ok f)
    (hopc : opcField s.cmd ∈ [0x20#8, 0x21#8, 0x22#8, 0x23#8, 0x24#8])
    (h : vsoSet (instField s.cmd) k ok f s = .next t) : Ends s t := by
  rcases (vsoSet_eq_next ..).1 h with ⟨-, ht⟩ | ⟨v, hv, ht⟩
  · exact .of_finish ht
  · exact .of_writes (.vsoSet k ok f v hopc hv hset) ht

/-- The four setters of an envelope write their instance or nothing. -/
theorem envSet_ends {s t : State} {k n : Nat} {ok : Bool} {good bad : Env → Env}
    (hopc : opcField s.cmd ∈ [0x30#8, 0x31#8, 0x32#8, 0x33#8, 0x34#8])
    (h : envSet (instField s.cmd) k n ok good bad s = .next t) : Ends s t := by
  rcases (envSet_eq_next ..).1 h with ⟨-, ht⟩ | ⟨e, -, ⟨-, ht⟩ | ⟨-, ht⟩⟩
  · exact .of_finish ht
  · exact .of_writes (.env _ 0 hopc) ht
  · exact .of_writes (.env _ n hopc) ht

/-- Each instruction ends as its row of the opcode map says, from the lemma that says what its meaning can do. -/
theorem exec_ends (s t : State) (i : Instr) (hn : Names s.cmd i) (h : exec i s = .next t) : Ends s t := by
  cases hn with
  | cvt _ sf df =>
    rw [exec_cvtInstr] at h
    exact .of_finish ((convert_eq_next ..).1 h)
  | smp _ wk df dc =>
    rw [exec_smpInstr] at h
    exact .of_finish ((sampleAt_eq_next ..).1 h).2
  | oscCfg hopc wk dc =>
    rcases execOscCfg_next _ _ _ _ _ h with ht | ⟨hwk, -, ht⟩
    · exact .of_finish ht
    · exact .of_writes (.oscCfg wk dc hopc hwk) ht
  | oscNext hopc df =>
    rcases execOscNext_next _ _ _ _ h with ht | ⟨o, ho, -, hfreq, ht⟩
    · exact .of_finish ht
    · exact .of_writes (.oscNext o hopc ho hfreq) ht
  | oscAt _ df =>
    rcases execOscAt_next _ _ _ _ h with ht | ⟨o, -, -, -, ht⟩ <;> exact .of_finish ht
  | tblBuild hopc wk dc =>
    rcases execTblBuild_next _ _ _ _ _ h with ht | ⟨len, -, -, ht⟩ | ⟨-, hlen, -, ht⟩
    · exact .of_finish ht
    · exact .of_finish ht
    · exact .of_writes (.tblBuild wk dc hopc hlen) ht
  | tblAlloc hopc wk dc =>
    rcases execTblAlloc_next _ _ _ _ h with ht | ⟨hwk, -, ⟨e, -, ht⟩ | ⟨-, -, ht⟩ | ⟨-, hroom, ht⟩⟩
    · exact .of_finish ht
    · exact .of_finish ht
    · exact .of_finish ht
    · exact .of_writes (.tblAlloc wk dc hopc hwk hroom) ht
  | lutBind hopc =>
    rcases execLutBind_next _ _ _ h with ht | ⟨-, hh, ht⟩
    · exact .of_finish ht
    · exact .of_writes (.lutBind hopc hh) ht
  | lutNext hopc =>
    rcases execLutNext_next _ _ _ h with ht | ⟨l, w, hl, hbound, -, ht⟩
    · exact .of_finish ht
    · exact .of_writes (.lutNext l hopc hl hbound) ht
  | lutAt _ =>
    rcases execLutAt_next _ _ _ h with ht | ⟨l, w, -, -, -, ht⟩ <;> exact .of_finish ht
  | vsoSetMaster hopc => exact vsoSet_ends .master (by simp [hopc]) h
  | vsoSetSlave hopc => exact vsoSet_ends .slave (by simp [hopc]) h
  | vsoSetPw hopc => exact vsoSet_ends .pulseWidth (by simp [hopc]) h
  | vsoSetShape hopc => exact vsoSet_ends .shape (by simp [hopc]) h
  | vsoSetSync hopc g => exact vsoSet_ends (.sync g) (by simp [hopc]) h
  | vsoTick hopc =>
    rcases execVsoTick_next _ _ _ h with ht | ⟨v, hv, -, -, hin, ht⟩
    · exact .of_finish ht
    · exact .of_writes (.vsoTick v hopc hv hin) ht
  | envSetAttack hopc => exact envSet_ends (by simp [hopc]) h
  | envSetDecay hopc => exact envSet_ends (by simp [hopc]) h
  | envSetRelease hopc => exact envSet_ends (by simp [hopc]) h
  | envSetSustain hopc => exact envSet_ends (by simp [hopc]) h
  | envTick hopc g =>
    rcases execEnvTick_next _ _ _ _ h with ht | ⟨e, -, -, -, ht⟩
    · exact .of_finish ht
    · exact .of_writes (.env (envTicked g e) 0 (by simp [hopc])) ht
  | envStat _ =>
    rcases execEnvStat_next _ _ _ h with ht | ⟨e, -, ht⟩ <;> exact .of_finish ht

/-- Without the reset input a completing step is a command that ends: a refused word is `Illegal` and writes nothing else (R88,
R703). -/
theorem step_ends (s t : State) (hrst : s.rst = false) (h : step s = .next t) : Ends s t := by
  rcases step_cases s with ⟨hr, -⟩ | ⟨-, -, hstep⟩ | ⟨-, i, hdec, hstep⟩
  · simp [hrst] at hr
  · exact .of_finish ((raiseIllegal_eq_next ..).1 (hstep.symm.trans h))
  · exact exec_ends s t i (decode_names _ _ hdec) (hstep.symm.trans h)

/-- What a completing step is: the reset event, or a command that ends. -/
theorem step_reset_or_ends (s t : State) (h : step s = .next t) : t = hostReset s ∨ (s.rst = false ∧ Ends s t) := by
  cases hrst : s.rst
  · exact .inr ⟨rfl, step_ends s t hrst h⟩
  · simp only [step, hrst, if_true] at h
    cases h
    exact .inl rfl

/-! ## The reset event -/

/-- The two kinds of valid handle (20_memory.md R62). -/
theorem handleValid_iff (s : State) (h : Handle) :
    handleValid s h = true ↔
      (isPrivHandle h = true ∧ handleIndex h < s.cfg.nPriv ∧ s.privOk[handleIndex h]? = some true) ∨
      (isPrivHandle h = false ∧ handleIndex h < s.cnt) := by
  unfold handleValid
  split <;> simp_all

/-- No handle is valid after the reset event: the cache is empty and no buffer is built (R62, R35). -/
theorem handleValid_hostReset (s : State) (h : Handle) : handleValid (hostReset s) h = false := by
  rw [Bool.eq_false_iff, Ne, handleValid_iff]
  simp [List.getElem?_replicate]

/-- What holds of the initial registers holds of every place of a file after reset. -/
theorem forall_mem_replicate {α : Type} {n : Nat} {x : α} {P : α → Prop} (hx : P x) : ∀ y ∈ List.replicate n x, P y := by
  intro y hy
  rwa [List.eq_of_mem_replicate hy]

/-- Settles O6: the step is `hostReset`, and every instance it lists is the initial one. -/
theorem resetEvent : Obligations.ResetEvent := by
  intro s hrst
  exact ⟨hostReset s, by simp [step, hrst], rfl, rfl,
    List.length_replicate, forall_mem_replicate (by decide), List.length_replicate, forall_mem_replicate (by decide),
    List.length_replicate, forall_mem_replicate (by decide), List.length_replicate, forall_mem_replicate (by decide),
    rfl, forall_mem_replicate rfl, handleValid_hostReset s, rfl⟩

/-! ## What every command leaves alone -/

section Frame
variable {s u : State}

/-- No command writes the configuration record or the host's inputs (R21). -/
theorem Writes.inputs (h : Writes s u) :
    u.cfg = s.cfg ∧ u.rst = s.rst ∧ u.cmd = s.cmd ∧ u.opa = s.opa ∧ u.opb = s.opb := by
  cases h <;> exact ⟨rfl, rfl, rfl, rfl, rfl⟩

/-- Only the addressed instance of a file changes, and only under the opcodes that write the file (R723). -/
theorem getElem?_set_of_addressed {α : Type} {xs : List α} {x : α} {i : BitVec 8} {k : Nat} {opc : BitVec 8}
    {opcs : List (BitVec 8)} (hopc : opc ∈ opcs) (hk : k ≠ i.toNat ∨ opc ∉ opcs) : (xs.set i.toNat x)[k]? = xs[k]? :=
  List.getElem?_set_ne (hk.resolve_right (absurd hopc)).symm

/-- Oscillators change only under `OSC.CFG` and `OSC.NEXT`, and only instance `INST`. -/
theorem Writes.osc_frame (h : Writes s u) {k : Nat}
    (hk : k ≠ (instField s.cmd).toNat ∨ opcField s.cmd ∉ [0x11#8, 0x12#8]) : u.osc[k]? = s.osc[k]? := by
  cases h with
  | oscCfg _ _ hopc => exact getElem?_set_of_addressed (by simp [hopc]) hk
  | oscNext _ hopc => exact getElem?_set_of_addressed (by simp [hopc]) hk
  | _ => rfl

/-- Readers change only under `LUT.BIND` and `LUT.NEXT`, and only instance `INST`. -/
theorem Writes.lut_frame (h : Writes s u) {k : Nat}
    (hk : k ≠ (instField s.cmd).toNat ∨ opcField s.cmd ∉ [0x1A#8, 0x1B#8]) : u.lut[k]? = s.lut[k]? := by
  cases h with
  | lutBind hopc => exact getElem?_set_of_addressed (by simp [hopc]) hk
  | lutNext _ hopc => exact getElem?_set_of_addressed (by simp [hopc]) hk
  | _ => rfl

/-- Variable-shape oscillators change only under `VSO` commands, and only instance `INST`. -/
theorem Writes.vso_frame (h : Writes s u) {k : Nat}
    (hk : k ≠ (instField s.cmd).toNat ∨ opcField s.cmd ∉ [0x20#8, 0x21#8, 0x22#8, 0x23#8, 0x24#8, 0x25#8]) :
    u.vso[k]? = s.vso[k]? := by
  cases h with
  | vsoSet _ _ _ _ hopc => exact getElem?_set_of_addressed (List.mem_append_left [0x25#8] hopc) hk
  | vsoTick _ hopc => exact getElem?_set_of_addressed (by simp [hopc]) hk
  | _ => rfl

/-- Envelopes change only under `ENV` setters and ticks, and only instance `INST`. -/
theorem Writes.env_frame (h : Writes s u) {k : Nat}
    (hk : k ≠ (instField s.cmd).toNat ∨ opcField s.cmd ∉ [0x30#8, 0x31#8, 0x32#8, 0x33#8, 0x34#8]) :
    u.env[k]? = s.env[k]? := by
  cases h with
  | env _ _ hopc => exact getElem?_set_of_addressed hopc hk
  | _ => rfl

/-- The cache's count and tags change only under `TBL.ALLOC`. -/
theorem Writes.cache_frame (h : Writes s u) (hopc : opcField s.cmd ≠ 0x19#8) : u.cnt = s.cnt ∧ u.tags = s.tags := by
  cases h with
  | tblAlloc _ _ hopc' => exact absurd hopc' hopc
  | _ => exact ⟨rfl, rfl⟩

/-- The buffer flags change only under `TBL.BUILD`. -/
theorem Writes.privOk_frame (h : Writes s u) (hopc : opcField s.cmd ≠ 0x18#8) : u.privOk = s.privOk := by
  cases h with
  | tblBuild _ _ hopc' => exact absurd hopc' hopc
  | _ => rfl

/-- The table memory changes only under the two `TBL` commands (R63). -/
theorem Writes.mem_frame (h : Writes s u) (hopc : opcField s.cmd ∉ [0x18#8, 0x19#8]) : u.mem = s.mem := by
  cases h with
  | tblBuild _ _ hopc' => simp [hopc'] at hopc
  | tblAlloc _ _ hopc' => simp [hopc'] at hopc
  | _ => rfl

end Frame

/-- Settles O53: a completing command ends, and each part of the state has its frame lemma over what a command can write. -/
theorem commandsWriteTheirOwn : Obligations.CommandsWriteTheirOwn := by
  intro s t hrst h
  obtain ⟨u, st, w, hw, rfl⟩ := step_ends s t hrst h
  exact ⟨hw.inputs, fun _ => hw.osc_frame, fun _ => hw.lut_frame, fun _ => hw.vso_frame, fun _ => hw.env_frame,
    hw.cache_frame, hw.privOk_frame, fun hopc a n => congrArg (memRead · a n) (hw.mem_frame hopc)⟩

/-! ## Ranges of binary32 values -/

/-- The value of `+0.0`, in units of `2^-149` as all of these. -/
theorem int32_zero32 : int32 zero32 = 0 := by decide

/-- The value of `1.0`. -/
theorem int32_one32 : int32 one32 = 2 ^ 149 := by decide

/-- The value of `-1.0`. -/
theorem int32_negOne32 : int32 negOne32 = -2 ^ 149 := by decide

/-- The value of `0.5`. -/
theorem int32_half32 : int32 half32 = 2 ^ 148 := by decide

/-- The value of `2.0`. -/
theorem int32_two32 : int32 two32 = 2 ^ 150 := by decide

/-- The value of `0.25`. -/
theorem int32_quarter32 : int32 quarter32 = 2 ^ 147 := by decide

/-- Below is at most. -/
theorem le32_of_lt32 {a b : F32} (h : lt32 a b = true) : le32 a b = true := by
  simp only [lt32, le32, Bool.and_eq_true, decide_eq_true_eq] at *
  exact ⟨h.1, h.2.le⟩

/-- A comparison that holds has no NaN. -/
theorem not_isNaN32_of_le32 {a b : F32} (h : le32 a b = true) : isNaN32 a = false ∧ isNaN32 b = false := by
  simp only [le32, Bool.and_eq_true, Bool.not_eq_true'] at h
  exact h.1

/-- The order is total on values that are not NaNs. -/
theorem le32_total {a b : F32} (ha : isNaN32 a = false) (hb : isNaN32 b = false) (h : ¬lt32 a b = true) :
    le32 b a = true := by
  simp only [lt32, le32, ha, hb, Bool.not_false, Bool.true_and, decide_eq_true_eq] at *
  omega

/-- The order is total on values that are not NaNs. -/
theorem lt32_total {a b : F32} (ha : isNaN32 a = false) (hb : isNaN32 b = false) (h : ¬le32 a b = true) :
    lt32 b a = true := by
  simp only [lt32, le32, ha, hb, Bool.not_false, Bool.true_and, decide_eq_true_eq] at *
  omega

/-- The range [0, 1) in terms of the value. -/
theorem inUnit_iff (x : F32) : InUnit x ↔ isFin32 x = true ∧ 0 ≤ int32 x ∧ int32 x < 2 ^ 149 := by
  constructor
  · rintro ⟨hlo, hhi⟩
    have hfin := isFin32_of_between zero32 x one32 (by decide) (by decide) hlo (le32_of_lt32 hhi)
    rw [le32_iff zero32 x (by decide) hfin, int32_zero32] at hlo
    rw [lt32_iff x one32 hfin (by decide), int32_one32] at hhi
    exact ⟨hfin, hlo, hhi⟩
  · rintro ⟨hfin, hlo, hhi⟩
    refine ⟨(le32_iff zero32 x (by decide) hfin).2 ?_, (lt32_iff x one32 hfin (by decide)).2 ?_⟩
    · rwa [int32_zero32]
    · rwa [int32_one32]

/-! ## Canonical words -/

/-- The canonical word of a format, said by its width and its signedness (R115). -/
theorem canonical_eq (f : Fmt) (w : Word) :
    canonical f w = if f.isSigned then (w.setWidth f.width).signExtend 64 else (w.setWidth f.width).setWidth 64 := by
  cases f <;> simp [canonical, Fmt.isSigned, Fmt.width]

/-- A sample fits a word (R110). -/
theorem fmt_width_bounds (f : Fmt) : 0 < f.width ∧ f.width ≤ 64 := by
  cases f <;> decide

/-- A sign extension keeps the low bits. -/
theorem setWidth_signExtend_self {n : Nat} (x : BitVec n) (h : n ≤ 64) : (x.signExtend 64).setWidth n = x := by
  ext i hi
  simp [BitVec.getElem_signExtend, hi, show i < 64 by omega]

/-- A canonical word is its own canonical word. -/
@[simp] theorem canonical_canonical (f : Fmt) (w : Word) : canonical f (canonical f w) = canonical f w := by
  obtain ⟨-, h64⟩ := fmt_width_bounds f
  simp only [canonical_eq]
  split
  · rw [setWidth_signExtend_self _ h64]
  · rw [BitVec.setWidth_setWidth_of_le _ h64, BitVec.setWidth_eq]

/-- A binary32 in a word is canonical (R115). -/
@[simp] theorem canonical_encF32 (y : F32) : canonical .f32 (encF32 y) = encF32 y := by
  simp [canonical, encF32]

/-- The low bits of a number. -/
theorem setWidth_ofInt (n : Nat) (t : Int) (h64 : n ≤ 64) : (BitVec.ofInt 64 t).setWidth n = BitVec.ofInt n t := by
  have hdvd : ((2 ^ n : Nat) : Int) ∣ ((2 ^ 64 : Nat) : Int) := Int.natCast_dvd_natCast.2 (Nat.pow_dvd_pow 2 h64)
  have hmod := Int.emod_emod_of_dvd t hdvd
  have hpos : ((2 ^ n : Nat) : Int) ≠ 0 := by positivity
  apply BitVec.eq_of_toNat_eq
  rw [BitVec.toNat_setWidth, BitVec.toNat_ofInt, BitVec.toNat_ofInt]
  zify
  rw [Int.toNat_of_nonneg (Int.emod_nonneg _ (by decide)), Int.toNat_of_nonneg (Int.emod_nonneg _ (by positivity))]
  exact_mod_cast hmod

/-- A number in the range of `n`-bit two's complement is the sign extension of its low bits. -/
theorem signExtend_ofInt (n : Nat) (t : Int) (h0 : 0 < n) (h64 : n ≤ 64) (hlo : -2 ^ (n - 1) ≤ t)
    (hhi : t < 2 ^ (n - 1)) : (BitVec.ofInt n t).signExtend 64 = BitVec.ofInt 64 t := by
  have hbmod : ∀ m, n ≤ m → t.bmod (2 ^ m) = t := by
    intro m hm
    have hpow : (2 : Int) ^ (n - 1) ≤ 2 ^ (m - 1) := pow_le_pow_right₀ (by omega) (by omega)
    have hm2 : ((2 ^ m : Nat) : Int) = 2 * 2 ^ (m - 1) := by
      rw [← pow_succ', Nat.sub_add_cancel (by omega)]
      push_cast
      rfl
    apply Int.bmod_eq_of_le <;> omega
  apply BitVec.eq_of_toInt_eq
  rw [BitVec.toInt_signExtend_of_le h64, BitVec.toInt_ofInt, BitVec.toInt_ofInt, hbmod n le_rfl, hbmod 64 h64]

/-- A number in the range of `n` unsigned bits is the zero extension of its low bits. -/
theorem setWidth_ofInt_of_lt (n : Nat) (t : Int) (h64 : n ≤ 64) (hlo : 0 ≤ t) (hhi : t < 2 ^ n) :
    (BitVec.ofInt n t).setWidth 64 = BitVec.ofInt 64 t := by
  have hpow : (2 : Int) ^ n ≤ 2 ^ 64 := pow_le_pow_right₀ (by omega) h64
  apply BitVec.eq_of_toNat_eq
  rw [BitVec.toNat_setWidth, BitVec.toNat_ofInt, BitVec.toNat_ofInt, Int.emod_eq_of_lt hlo (by exact_mod_cast hhi),
    Int.emod_eq_of_lt hlo (by push_cast; omega), Nat.mod_eq_of_lt]
  zify
  omega

/-- An integer sample in the range of its format is canonical, with and without the bias (R113, R115). -/
theorem canonical_encSigned (f : Fmt) (t : Int) (hlo : -2 ^ (f.width - 1) ≤ t)
    (hhi : t < 2 ^ (f.width - 1)) : canonical f (encSigned f t) = encSigned f t := by
  obtain ⟨h0, h64⟩ := fmt_width_bounds f
  have hw : (2 : Int) ^ f.width = 2 * 2 ^ (f.width - 1) := by rw [← pow_succ', Nat.sub_add_cancel h0]
  rw [canonical_eq]
  unfold encSigned encInt
  rw [setWidth_ofInt _ _ h64]
  split
  · exact signExtend_ofInt _ _ h0 h64 hlo hhi
  · exact setWidth_ofInt_of_lt _ _ h64 (by omega) (by omega)

/-- A conversion from binary32 in contract stays in the range of its destination. -/
theorem truncated_range (x : F32) (k : Nat) (hlo : le32 negOne32 x = true) (hhi : lt32 x one32 = true) :
    -2 ^ k ≤ signedNat (sign32 x) (units32 x * 2 ^ k / 2 ^ 149) ∧
    signedNat (sign32 x) (units32 x * 2 ^ k / 2 ^ 149) < 2 ^ k := by
  have hfin := isFin32_of_between negOne32 x one32 (by decide) (by decide) hlo (le32_of_lt32 hhi)
  rw [le32_iff negOne32 x (by decide) hfin, int32_negOne32] at hlo
  rw [lt32_iff x one32 hfin (by decide), int32_one32] at hhi
  have hpos : (0 : Int) < 2 ^ k := by positivity
  unfold int32 at hlo hhi
  unfold signedNat
  cases hs : sign32 x <;> simp only [hs, if_true, Bool.false_eq_true, if_false] at hlo hhi ⊢
  · have hu : units32 x < 2 ^ 149 := by omega
    have hq : ((units32 x * 2 ^ k / 2 ^ 149 : Nat) : Int) < 2 ^ k := by
      exact_mod_cast Nat.div_lt_of_lt_mul (Nat.mul_lt_mul_of_pos_right hu (by positivity))
    exact ⟨by omega, hq⟩
  · have hu : units32 x ≤ 2 ^ 149 := by omega
    have hq : ((units32 x * 2 ^ k / 2 ^ 149 : Nat) : Int) ≤ 2 ^ k := by
      exact_mod_cast Nat.div_le_of_le_mul (Nat.mul_le_mul_right _ hu)
    omega

/-- A conversion from binary32 in contract gives a canonical word (R119). -/
theorem canonical_cvtF32Int (b : Fmt) (x : F32) (hlo : le32 negOne32 x = true) (hhi : lt32 x one32 = true) :
    canonical b (cvtF32Int b x) = cvtF32Int b x := by
  obtain ⟨h1, h2⟩ := truncated_range x (b.width - 1) hlo hhi
  exact canonical_encSigned b _ h1 h2

/-- A conversion from binary32 gives a canonical word, in contract and out of it (R122). -/
@[simp] theorem canonical_cvtResult_f32 (b : Fmt) (w : Word) : canonical b (cvtResult .f32 b w) = cvtResult .f32 b w := by
  unfold cvtResult
  split
  next => exact canonical_canonical b _
  next hc =>
    obtain ⟨hlo, hhi⟩ : le32 negOne32 (f32Of w) = true ∧ lt32 (f32Of w) one32 = true := by
      simpa [Fmt.isFloat, inContract] using hc
    cases b with
    | f32 => exact canonical_encF32 _
    | f64 => rfl
    | _ => exact canonical_cvtF32Int _ _ hlo hhi

/-- The output stage gives a canonical word (R506). -/
@[simp] theorem canonical_outStage (df : Fmt) (y : F32) : canonical df (outStage df y) = outStage df y := by
  unfold outStage
  split
  next hdf => rw [hdf, canonical_encF32]
  next => exact canonical_cvtResult_f32 df _

/-- The words of a table are canonical (20_memory.md R61). -/
theorem canonical_of_mem_tableWords (c : Params) (wk : Wave) (freq : F32) (dc : Duty) (w : Word)
    (h : w ∈ tableWords c wk freq dc) : canonical c.tableFmt w = w := by
  cases wk <;>
  · simp only [tableWords, List.mem_map] at h
    obtain ⟨i, -, rfl⟩ := h
    exact canonical_outStage _ _

/-! ## The block's invariant -/

section Wired
variable {s u : State}

/-- What holds of a file before a write and of the registers written holds of the file after it. -/
theorem forall_mem_set {α : Type} {xs : List α} {i : Nat} {x : α} {P : α → Prop} (hxs : ∀ y ∈ xs, P y) (hx : P x) :
    ∀ y ∈ xs.set i x, P y := by
  intro y hy
  rcases List.mem_or_eq_of_mem_set hy with hy | rfl
  · exact hxs y hy
  · exact hx

/-- No command writes the configuration record. -/
theorem Writes.cfg_eq (h : Writes s u) : u.cfg = s.cfg := h.inputs.1

/-- No command changes the length of a list. -/
theorem Writes.lengths (h : Writes s u) :
    u.osc.length = s.osc.length ∧ u.lut.length = s.lut.length ∧ u.vso.length = s.vso.length ∧
    u.env.length = s.env.length ∧ u.tags.length = s.tags.length ∧ u.privOk.length = s.privOk.length := by
  cases h <;> simp

/-- Every list keeps its configured length. -/
theorem Writes.sizesOk (h : Writes s u) (hs : SizesOk s) : SizesOk u := by
  obtain ⟨hosc, hlut, hvso, henv, htags, hpriv⟩ := h.lengths
  unfold SizesOk
  rwa [h.cfg_eq, hosc, hlut, hvso, henv, htags, hpriv]

/-- What is read of a file is in it. -/
theorem mem_of_getOsc {i : BitVec 8} {o : Osc} (h : getOsc s i = some o) : o ∈ s.osc :=
  List.mem_of_getElem? ((getOsc_eq_some ..).1 h).2

/-- What is read of a file is in it. -/
theorem mem_of_getLut {i : BitVec 8} {l : Lut} (h : getLut s i = some l) : l ∈ s.lut :=
  List.mem_of_getElem? ((getLut_eq_some ..).1 h).2

/-- What is read of a file is in it. -/
theorem mem_of_getVso {i : BitVec 8} {v : Vso} (h : getVso s i = some v) : v ∈ s.vso :=
  List.mem_of_getElem? ((getVso_eq_some ..).1 h).2

/-- A configured oscillator holds one of the four kinds: `OSC.CFG` is illegal with another, `OSC.NEXT` keeps the kind. -/
theorem Writes.oscKinds (h : Writes s u) (hs : ∀ o ∈ s.osc, o.cfg = true → o.kind.isSourceKind = true) :
    ∀ o ∈ u.osc, o.cfg = true → o.kind.isSourceKind = true := by
  cases h with
  | oscCfg wk dc _ hwk => exact forall_mem_set hs fun _ => hwk
  | oscNext o _ ho => exact forall_mem_set hs (hs o (mem_of_getOsc ho))
  | _ => exact hs

/-- A valid handle stays valid while `CNT` and the buffer flags only grow. -/
theorem handleValid_mono {h : Handle} (hcfg : u.cfg = s.cfg) (hcnt : s.cnt ≤ u.cnt)
    (hpriv : ∀ j : Nat, s.privOk[j]? = some true → u.privOk[j]? = some true) (hv : handleValid s h = true) :
    handleValid u h = true := by
  rw [handleValid_iff, hcfg]
  rcases (handleValid_iff s h).1 hv with ⟨hp, hlt, hok⟩ | ⟨hp, hlt⟩
  · exact .inl ⟨hp, hlt, hpriv _ hok⟩
  · exact .inr ⟨hp, hlt.trans_le hcnt⟩

/-- No command makes a valid handle invalid (R62). -/
theorem Writes.handle_stays_valid (h : Writes s u) {a : Handle} (hv : handleValid s a = true) : handleValid u a = true := by
  refine handleValid_mono h.cfg_eq ?count ?flags hv
  case count => cases h <;> simp
  case flags =>
    cases h with
    | tblBuild =>
      intro j hj
      have hlt := (List.getElem?_eq_some_iff.1 hj).1
      simp only [markPrivOk_privOk, fillTable_privOk, List.getElem?_set]
      split
      · simp_all
      · exact hj
    | _ => exact fun _ hj => hj

/-- What `ReadersOk` asks of one reader. -/
abbrev ReaderOk (s : State) (l : Lut) : Prop :=
  if l.bound then handleValid s l.tbl = true ∧ l.idx.toNat < s.cfg.sampleRate else l.idx = 0#32

/-- A bound reader on a valid handle with its index inside the table. -/
theorem readerOk_bound (l : Lut) (hl : l.bound = true) (hh : handleValid s l.tbl = true)
    (hidx : l.idx.toNat < s.cfg.sampleRate) : ReaderOk s l := by
  unfold ReaderOk
  rw [if_pos hl]
  exact ⟨hh, hidx⟩

/-- A reader that no command touches is as good as before. -/
theorem Writes.readerOk (h : Writes s u) {l : Lut} (hl : ReaderOk s l) : ReaderOk u l := by
  by_cases hb : l.bound = true
  · rw [ReaderOk, if_pos hb] at hl ⊢
    rw [h.cfg_eq]
    exact ⟨h.handle_stays_valid hl.1, hl.2⟩
  · rw [ReaderOk, if_neg hb] at hl ⊢
    exact hl

/-- Readers: `LUT.BIND` starts a valid table at 0, `LUT.NEXT` advances modulo the table's length (R549, R551). -/
theorem Writes.readersOk (h : Writes s u) (hc : s.cfg.wf) (hs : ReadersOk s) : ReadersOk u := by
  obtain ⟨hrate1, hrate, -⟩ := hc
  have hkeep : ∀ l ∈ s.lut, ReaderOk u l := fun l hl => h.readerOk (hs l hl)
  cases h with
  | lutBind _ hh => exact forall_mem_set hkeep (readerOk_bound _ rfl hh hrate1)
  | lutNext l _ hl hbound =>
    have hold := hs l (mem_of_getLut hl)
    rw [if_pos hbound] at hold
    have hmod := Nat.mod_lt (l.idx.toNat + 1) hrate1
    refine forall_mem_set hkeep (readerOk_bound _ hbound hold.1 ?_)
    show (BitVec.ofNat 32 ((l.idx.toNat + 1) % s.cfg.sampleRate)).toNat < s.cfg.sampleRate
    rwa [BitVec.toNat_ofNat, Nat.mod_eq_of_lt (hmod.trans hrate)]
  | _ => exact hkeep

/-- A table is filled once all its words are written. -/
theorem tableFilled_fillTable_same (h : Handle) (wk : Wave) (freq : F32) (dc : Duty)
    (hrate : s.cfg.sampleRate < 2 ^ 32) : TableFilled (fillTable s h (tableWords s.cfg wk freq dc)) h := by
  intro i hi
  have hi' : i < (tableWords s.cfg wk freq dc).length := by simpa using hi
  have hidx : (BitVec.ofNat 32 i).toNat = i := by
    rw [BitVec.toNat_ofNat, Nat.mod_eq_of_lt (lt_trans hi hrate)]
  rw [fillTable_mem, memRead_memFill_same, hidx, List.getElem?_eq_getElem hi']
  simpa using canonical_of_mem_tableWords s.cfg wk freq dc _ (List.getElem_mem hi')

/-- Filling one table leaves another one filled. -/
theorem tableFilled_fillTable_other {h h' : Handle} {ws : List Word} (hw : ws.length ≤ 2 ^ 32) (hne : h' ≠ h)
    (hf : TableFilled s h') : TableFilled (fillTable s h ws) h' := by
  intro i hi
  rw [fillTable_mem, memRead_memFill_other _ _ _ _ _ hw hne]
  exact hf i hi

/-- Two buffers have different handles. -/
theorem privHandle_inj (a b : Nat) (ha : a < 2 ^ 31) (hb : b < 2 ^ 31) (h : privHandle a = privHandle b) : a = b := by
  have := congrArg BitVec.toNat h
  rw [privHandle_toNat a ha, privHandle_toNat b hb] at this
  omega

/-- `TBL.BUILD` keeps the tables: the one it builds has `SAMPLE_RATE` entries, the others are not touched. -/
theorem tablesOk_build (j : BitVec 8) (wk : Wave) (freq : F32) (dc : Duty) (hc : s.cfg.wf)
    (hlen : s.cfg.privLen[j.toNat]? = some s.cfg.sampleRate) (hs : TablesOk s) :
    TablesOk (markPrivOk (fillTable s (privHandle j.toNat) (tableWords s.cfg wk freq dc)) j.toNat) := by
  obtain ⟨hwf, hcnt, htags, hcache, hpriv⟩ := hs
  obtain ⟨-, hrate, hcap, hnpriv, -⟩ := hc
  have hj := j.isLt
  have hws : (tableWords s.cfg wk freq dc).length ≤ 2 ^ 32 := by
    rw [tableWords_length]
    exact hrate.le
  refine ⟨memFill_wf _ _ _ hwf hws, hcnt, htags, fun e he => ?_, fun k hk hok => ?_⟩
  · have he : e < 2 ^ 31 := by
      have : e < s.cnt := he
      omega
    exact tableFilled_fillTable_other hws (cacheHandle_ne_privHandle e _ he (by omega)) (hcache e ‹_›)
  · by_cases hkj : k = j.toNat
    · subst hkj
      exact ⟨hlen, tableFilled_fillTable_same _ wk freq dc hrate⟩
    · have hk' : k < 2 ^ 31 := by
        have : k < s.cfg.privLen.length := hk
        omega
      have hok : (s.privOk.set j.toNat true)[k]? = some true := hok
      rw [List.getElem?_set_ne (Ne.symm hkj)] at hok
      obtain ⟨hlenk, hfilled⟩ := hpriv k hk hok
      exact ⟨hlenk, tableFilled_fillTable_other hws (fun h => hkj (privHandle_inj _ _ hk' (by omega) h)) hfilled⟩

/-- After a write at place `n` the first `n + 1` places hold what the first `n` held and what was written. -/
theorem mem_take_set_succ {α : Type} {xs : List α} {n : Nat} {x y : α} (h : y ∈ (xs.set n x).take (n + 1)) :
    y ∈ xs.take n ∨ y = x := by
  rw [List.take_add_one, List.take_set_of_le (le_refl n), List.mem_append] at h
  refine h.imp_right fun h => ?_
  rw [Option.mem_toList, List.getElem?_set_self'] at h
  simp_all

/-- A miss of `TBL.ALLOC` keeps the tables: the new entry is filled and has its tag, the others are not touched. -/
theorem tablesOk_alloc (wk : Wave) (freq : F32) (dc : Duty) (hc : s.cfg.wf) (hwk : wk.isSourceKind = true)
    (hroom : s.cnt ≠ s.cfg.cacheCap) (hs : TablesOk s) :
    TablesOk (pushTag (fillTable s (cacheHandle s.cnt) (tableWords s.cfg wk freq dc))
      { kind := wk, duty := dc, freq := freq }) := by
  obtain ⟨hwf, hcnt, htags, hcache, hpriv⟩ := hs
  obtain ⟨-, hrate, hcap, hnpriv, -⟩ := hc
  have hws : (tableWords s.cfg wk freq dc).length ≤ 2 ^ 32 := by
    rw [tableWords_length]
    exact hrate.le
  refine ⟨memFill_wf _ _ _ hwf hws, Nat.lt_of_le_of_ne hcnt hroom, fun t ht => ?_, fun e he => ?_, fun k hk hok => ?_⟩
  · rcases mem_take_set_succ ht with ht | rfl
    · exact htags t ht
    · exact hwk
  · by_cases hec : e = s.cnt
    · subst hec
      exact tableFilled_fillTable_same _ wk freq dc hrate
    · have he : e < s.cnt + 1 := he
      exact tableFilled_fillTable_other hws (fun h => hec (cacheHandle_inj _ _ (by omega) (by omega) h))
        (hcache e (by omega))
  · have hk' : k < s.cfg.privLen.length := hk
    obtain ⟨hlenk, hfilled⟩ := hpriv k hk hok
    exact ⟨hlenk, tableFilled_fillTable_other hws (cacheHandle_ne_privHandle _ k (by omega) (by omega)).symm hfilled⟩

/-- The tables: only the two `TBL` commands write what `TablesOk` speaks of. -/
theorem Writes.tablesOk (h : Writes s u) (hc : s.cfg.wf) (hs : TablesOk s) : TablesOk u := by
  cases h with
  | tblBuild wk dc _ hlen => exact tablesOk_build _ wk _ dc hc hlen hs
  | tblAlloc wk dc _ hwk hroom => exact tablesOk_alloc wk _ dc hc hwk hroom hs
  | _ => exact hs

/-- Every command keeps each of the four parts of the invariant. -/
theorem Writes.wired (h : Writes s u) (hs : Wired s) : Wired u := by
  obtain ⟨hsizes, htables, hreaders, hosc⟩ := hs
  exact ⟨h.sizesOk hsizes, h.tablesOk hsizes.1 htables, h.readersOk hsizes.1 hreaders, h.oscKinds hosc⟩

end Wired

/-- `ST` and `RES` are no part of the block's invariant. -/
theorem wired_finish (s : State) (st : Status) (w : Word) : Wired (finish s st w) ↔ Wired s := Iff.rfl

/-- The reset event leaves what `Wired` speaks of as it is right after reset. -/
theorem wired_hostReset (s : State) (hc : s.cfg.wf) : Wired (hostReset s) := resetWith_wired s.cfg hc

/-- Settles O58: the reset event re-establishes the invariant, and whatever else a step writes keeps it. -/
theorem stepKeepsWired : Obligations.StepKeepsWired := by
  intro s t hs h
  rcases step_reset_or_ends s t h with rfl | ⟨-, u, st, w, hw, rfl⟩
  · exact wired_hostReset s hs.1.1
  · exact (wired_finish u st w).2 (hw.wired hs)

/-! ## Phases in [0, 1) -/

/-- A value between two finite ones is finite, and so ordered by its value. -/
theorem int32_between {a x b : F32} (ha : isFin32 a = true) (hb : isFin32 b = true) (h1 : le32 a x = true)
    (h2 : le32 x b = true) : isFin32 x = true ∧ int32 a ≤ int32 x ∧ int32 x ≤ int32 b := by
  have hx := isFin32_of_between a x b ha hb h1 h2
  exact ⟨hx, (le32_iff a x ha hx).1 h1, (le32_iff x b hx hb).1 h2⟩

/-- The range check, said as two comparisons. -/
theorem within32_iff (lo y hi : F32) : within32 lo y hi = true ↔ le32 lo y = true ∧ le32 y hi = true := by
  simp [within32]

/-- The order is transitive. -/
theorem lt32_of_lt_of_le {a b c : F32} (h1 : lt32 a b = true) (h2 : le32 b c = true) : lt32 a c = true := by
  simp only [lt32, le32, Bool.and_eq_true, Bool.not_eq_true', decide_eq_true_eq] at *
  exact ⟨⟨h1.1.1, h2.1.2⟩, h1.2.trans_le h2.2⟩

/-- The order is transitive. -/
theorem le32_trans {a b c : F32} (h1 : le32 a b = true) (h2 : le32 b c = true) : le32 a c = true := by
  simp only [le32, Bool.and_eq_true, Bool.not_eq_true', decide_eq_true_eq] at *
  exact ⟨⟨h1.1.1, h2.1.2⟩, h1.2.trans h2.2⟩

/-- A value in [0, 0.5] is in [0, 1). -/
theorem inUnit_of_le_half {x : F32} (h0 : le32 zero32 x = true) (h1 : le32 x half32 = true) : InUnit x := by
  obtain ⟨hx, hlo, hhi⟩ := int32_between (by decide) (by decide) h0 h1
  rw [int32_zero32] at hlo
  rw [int32_half32] at hhi
  exact (inUnit_iff x).2 ⟨hx, hlo, by omega⟩

/-- The largest binary32 below 1. -/
def belowOne32 : F32 := 0x3F7FFFFF#32

/-- Its value is `1 - 2^-24`. -/
theorem int32_belowOne32 : int32 belowOne32 = (2 ^ 24 - 1) * 2 ^ 125 := by decide

/-- No binary32 lies between `1 - 2^-24` and 1: their order keys are neighbours. -/
theorem InUnit.int32_le {x : F32} (h : InUnit x) : int32 x ≤ (2 ^ 24 - 1) * 2 ^ 125 := by
  have hx := ((inUnit_iff x).1 h).1
  have hkey : key32 x < key32 one32 := by
    have := h.2
    simp only [lt32, Bool.and_eq_true, decide_eq_true_eq] at this
    exact this.2
  have hnext : key32 one32 = key32 belowOne32 + 1 := by decide
  have hle := (key32_lt_iff belowOne32 x).not.1 (by omega)
  rw [int32_belowOne32] at hle
  omega

/-- The fraction of a binary32 has at most its 24 significant bits, so it is at most `1 - 2^-24`: below the binade of
2^149 units the value is small enough itself, from there on it is a multiple of 2^125 units. -/
theorem units32_mod_le (p : F32) : units32 p % 2 ^ 149 ≤ (2 ^ 24 - 1) * 2 ^ 125 := by
  unfold units32 magUnits
  split
  next h =>
    have hm : mag32 p < 2 ^ 23 := by omega
    have := Nat.mod_le (mag32 p) (2 ^ 149)
    omega
  next h =>
    have hk : 2 ^ 23 + mag32 p % 2 ^ 23 ≤ 2 ^ 24 - 1 := by omega
    show (2 ^ 23 + mag32 p % 2 ^ 23) * 2 ^ (mag32 p / 2 ^ 23 - 1) % 2 ^ 149 ≤ _
    generalize 2 ^ 23 + mag32 p % 2 ^ 23 = k at *
    generalize mag32 p / 2 ^ 23 - 1 = s at *
    rcases Nat.lt_or_ge s 125 with hs | hs
    · calc k * 2 ^ s % 2 ^ 149 ≤ k * 2 ^ s := Nat.mod_le _ _
        _ ≤ (2 ^ 24 - 1) * 2 ^ 125 := Nat.mul_le_mul hk (Nat.pow_le_pow_right (by omega) hs.le)
    · obtain ⟨r, rfl⟩ := Nat.exists_eq_add_of_le hs
      calc k * 2 ^ (125 + r) % 2 ^ 149 = (k * 2 ^ r * 2 ^ 125) % (2 ^ 24 * 2 ^ 125) := by
            rw [pow_add]
            congr 1
            ring
        _ = k * 2 ^ r % 2 ^ 24 * 2 ^ 125 := Nat.mul_mod_mul_right _ _ _
        _ ≤ (2 ^ 24 - 1) * 2 ^ 125 := Nat.mul_le_mul_right _ (by omega)

/-- `frac32` of a finite value `>= 0` is in [0, 1): it cannot round up to 1 (R502). -/
theorem frac32_inUnit (p : F32) (hfin : isFin32 p = true) (h0 : le32 zero32 p = true) : InUnit (frac32 p) := by
  have hsign : (isFin32 p && (!sign32 p || decide (mag32 p = 0))) = true := by
    simp only [le32, Bool.and_eq_true, decide_eq_true_eq] at h0
    have hkey : 0 ≤ key32 p := h0.2
    unfold key32 at hkey
    cases hs : sign32 p
    · simp [hfin]
    · simp only [hs, if_true] at hkey
      simp [hfin]
      omega
  rw [frac32, if_pos hsign]
  have hle := units32_mod_le p
  have hnan := isNaN32_rn32 false (units32 p % 2 ^ 149) (2 ^ 149)
  refine ⟨le32_of_key32 _ _ (by decide) hnan (le_key32_rn32 _ _ _ _ (by positivity) (by decide) ?_), ?_⟩
  · rw [int32_zero32]
    simp only [signedNum, Bool.false_eq_true, if_false]
    omega
  · have hkey : key32 (rn32 false (units32 p % 2 ^ 149) (2 ^ 149)) ≤ key32 belowOne32 := by
      refine key32_rn32_le _ _ _ _ (by positivity) (by decide) ?_
      rw [int32_belowOne32]
      simp only [signedNum, Bool.false_eq_true, if_false]
      omega
    have hnext : key32 belowOne32 < key32 one32 := by decide
    simp only [lt32, hnan, Bool.not_false, Bool.true_and, Bool.and_eq_true, decide_eq_true_eq]
    exact ⟨by decide, by omega⟩

/-- The sample rate as a binary32 is finite and at least 1 (R501). -/
theorem rate32_range (c : Params) (hc : c.wf) : isFin32 (rate32 c) = true ∧ 2 ^ 149 ≤ int32 (rate32 c) := by
  obtain ⟨h1, h2, -⟩ := hc
  have hnan : isNaN32 (rate32 c) = false := isNaN32_rn32 _ _ _
  have hlo : le32 one32 (rate32 c) = true := by
    refine le32_of_key32 _ _ (by decide) hnan (le_key32_rn32 _ _ _ _ (by omega) (by decide) ?_)
    rw [int32_one32]
    simp only [signedNum, Bool.false_eq_true, if_false]
    omega
  have hhi : le32 (rate32 c) 0x4F800000#32 = true := by
    refine le32_of_key32 _ _ hnan (by decide) (key32_rn32_le _ _ _ _ (by omega) (by decide) ?_)
    rw [show int32 0x4F800000#32 = 2 ^ 181 by decide]
    simp only [signedNum, Bool.false_eq_true, if_false]
    omega
  obtain ⟨hfin, hint, -⟩ := int32_between (by decide) (by decide) hlo hhi
  rw [int32_one32] at hint
  exact ⟨hfin, hint⟩

/-- A frequency divided by the sample rate is at most the frequency. -/
theorem div32_rate_range (c : Params) (f : F32) (hc : c.wf) (hfin : isFin32 f = true) (h0 : le32 zero32 f = true) :
    le32 zero32 (div32 f (rate32 c)) = true ∧ le32 (div32 f (rate32 c)) f = true := by
  obtain ⟨hrfin, hrate⟩ := rate32_range c hc
  rw [le32_iff zero32 _ (by decide) hfin, int32_zero32] at h0
  refine ⟨le_div32 _ _ _ hfin hrfin (by decide) (by omega) ?_, div32_le _ _ _ hfin hrfin hfin (by omega) ?_⟩
  · rw [int32_zero32]
    omega
  · exact mul_le_mul_of_nonneg_left hrate h0

/-- The largest finite binary32. -/
theorem int32_le_max (x : F32) (hx : isFin32 x = true) : int32 x ≤ (2 ^ 24 - 1) * 2 ^ 253 := by
  rw [isFin32_iff] at hx
  have hmax : magUnits 24 (inf32 - 1) = (2 ^ 24 - 1) * 2 ^ 253 := by decide
  have hle := (magUnits_le_iff 24 (mag32 x) (inf32 - 1) (by omega)).2 (by omega)
  rw [hmax] at hle
  unfold int32 units32
  split <;> omega

/-- A finite value and one below 1 do not reach the overflow threshold (R9). -/
theorem isFin32_add32_inUnit (x q : F32) (hx : InUnit x) (hq : isFin32 q = true) (h0 : 0 ≤ int32 q) :
    isFin32 (add32 x q) = true := by
  obtain ⟨hfin, hlo, hhi⟩ := (inUnit_iff x).1 hx
  have hmax := int32_le_max q hq
  obtain ⟨neg, hsum, -⟩ := add32_finite x q hfin hq
  rw [hsum, isFin32_iff, mag32_rn32, rnMag_eq]
  have hov := (inf32_le_rnRaw_iff ((int32 x + int32 q).natAbs * 2 ^ 149) (2 ^ 149) (by positivity)).not.2 (by omega)
  omega

/-- The phase after `OSC.NEXT` (R515): the increment is at most the frequency, so the sum is finite and not negative. -/
theorem oscAdvanced_inUnit (c : Params) (o : Osc) (hc : c.wf) (hph : InUnit o.phase)
    (hf : freqInContract o.freq = true) : InUnit (oscAdvanced c o).phase := by
  obtain ⟨hffin, hf0⟩ : isFin32 o.freq = true ∧ le32 zero32 o.freq = true := by simpa [freqInContract] using hf
  obtain ⟨hlo, hhi⟩ := div32_rate_range c o.freq hc hffin hf0
  obtain ⟨hqfin, hq0, -⟩ := int32_between (by decide) hffin hlo hhi
  rw [int32_zero32] at hq0
  obtain ⟨hpfin, hp0, -⟩ := (inUnit_iff _).1 hph
  refine frac32_inUnit _ (isFin32_add32_inUnit _ _ hph hqfin hq0) (le_add32 _ _ _ hpfin hqfin (by decide) ?_)
  rw [int32_zero32]
  omega

/-! ### The variable-shape oscillator -/

/-- A phase after an advance and before its wrap: at most 1.25. -/
abbrev Advanced (m : F32) : Prop := isFin32 m = true ∧ 0 ≤ int32 m ∧ int32 m ≤ 5 * 2 ^ 147

/-- The range of both frequencies of a variable-shape oscillator (R576), in terms of the value. -/
theorem quarter_range {f : F32} (h0 : le32 zero32 f = true) (h1 : le32 f quarter32 = true) :
    isFin32 f = true ∧ 0 ≤ int32 f ∧ int32 f ≤ 2 ^ 147 := by
  have h := int32_between (by decide) (by decide) h0 h1
  rwa [int32_zero32, int32_quarter32] at h

/-- A phase in [0, 1) is below 1.25. -/
theorem InUnit.advanced {x : F32} (h : InUnit x) : Advanced x := by
  obtain ⟨hfin, hlo, hhi⟩ := (inUnit_iff x).1 h
  exact ⟨hfin, hlo, by omega⟩

/-- A phase in [0, 1) advanced by a frequency. -/
theorem advanced_add32 {x f : F32} (hx : InUnit x) (h0 : le32 zero32 f = true) (h1 : le32 f quarter32 = true) :
    Advanced (add32 x f) := by
  obtain ⟨hxfin, hx0, hx1⟩ := (inUnit_iff x).1 hx
  obtain ⟨hffin, hf0, hf1⟩ := quarter_range h0 h1
  have hlo : le32 zero32 (add32 x f) = true := le_add32 _ _ _ hxfin hffin (by decide) (by rw [int32_zero32]; omega)
  have htop : int32 0x3FA00000#32 = 5 * 2 ^ 147 := by decide
  have hhi : le32 (add32 x f) 0x3FA00000#32 = true :=
    add32_le _ _ _ hxfin hffin (by decide) (by rw [htop]; omega)
  have h := int32_between (by decide) (by decide) hlo hhi
  rwa [int32_zero32, htop] at h

/-- The wrap takes the phase into [0, 0.25]. -/
theorem sub32_one_range {m : F32} (hm : Advanced m) (h : le32 one32 m = true) :
    le32 zero32 (sub32 m one32) = true ∧ le32 (sub32 m one32) quarter32 = true := by
  obtain ⟨hfin, -, hhi⟩ := hm
  have hlo := (le32_iff one32 m (by decide) hfin).1 h
  rw [int32_one32] at hlo
  refine ⟨le_sub32 _ _ _ hfin (by decide) (by decide) ?_, sub32_le _ _ _ hfin (by decide) (by decide) ?_⟩
  · rw [int32_zero32, int32_one32]
    omega
  · rw [int32_one32, int32_quarter32]
    omega

/-- A phase that has reached 1 is in [0, 1) after its wrap. -/
theorem sub32_one_inUnit {m : F32} (hm : Advanced m) (h : le32 one32 m = true) : InUnit (sub32 m one32) := by
  obtain ⟨h0, h1⟩ := sub32_one_range hm h
  exact inUnit_of_le_half h0 (le32_trans h1 (by decide))

/-- A phase that has not reached 1 needs no wrap. -/
theorem Advanced.inUnit {m : F32} (hm : Advanced m) (h : lt32 m one32 = true) : InUnit m := by
  obtain ⟨hfin, hlo, -⟩ := hm
  refine ⟨(le32_iff zero32 m (by decide) hfin).2 ?_, h⟩
  rwa [int32_zero32]

/-- The master phase after its advance (R580, step 1). -/
theorem masterAdvance_inUnit (v : Vso) (hm : InUnit v.mph) (h0 : le32 zero32 v.mfreq = true)
    (h1 : le32 v.mfreq quarter32 = true) : InUnit (masterAdvance v).1 := by
  have hadv := advanced_add32 hm h0 h1
  unfold masterAdvance
  dsimp only
  split
  next hwrap => exact sub32_one_inUnit hadv hwrap
  next hwrap => exact hadv.inUnit (lt32_total (by decide) (isNaN32_of_isFin32 _ hadv.1) hwrap)

/-- A factor in [0, 2] times a frequency is in [0, 0.5]. -/
theorem mul32_quarter_range {a f : F32} (ha0 : le32 zero32 a = true) (ha1 : le32 a two32 = true)
    (h0 : le32 zero32 f = true) (h1 : le32 f quarter32 = true) :
    le32 zero32 (mul32 a f) = true ∧ le32 (mul32 a f) half32 = true := by
  obtain ⟨hafin, ha0, ha1⟩ := int32_between (by decide) (by decide) ha0 ha1
  obtain ⟨hffin, hf0, hf1⟩ := quarter_range h0 h1
  rw [int32_zero32] at ha0
  rw [int32_two32] at ha1
  refine ⟨le_mul32 _ _ _ hafin hffin (by decide) ?_, mul32_le _ _ _ hafin hffin (by decide) ?_⟩
  · rw [int32_zero32, Int.zero_mul]
    exact mul_nonneg ha0 hf0
  · calc int32 a * int32 f ≤ 2 ^ 150 * 2 ^ 147 := mul_le_mul ha1 hf1 hf0 (by positivity)
      _ = int32 half32 * 2 ^ 149 := by rw [int32_half32, ← pow_add, ← pow_add]

/-- A product of finite values is no NaN. -/
theorem isNaN32_mul32_finite {a b : F32} (ha : isFin32 a = true) (hb : isFin32 b = true) :
    isNaN32 (mul32 a b) = false := by
  rw [mul32_eq_rn32 a b ha hb]
  exact isNaN32_rn32 _ _ _

/-- The effective pulse width is at most 1 (R577), so that a slave phase below it is below 1. -/
theorem pwEff_le_one (sf pw : F32) (h0 : le32 zero32 sf = true) (h1 : le32 sf quarter32 = true)
    (hpw : isFin32 pw = true) : le32 (pwEff sf pw) one32 = true := by
  have hsf := (quarter_range h0 h1).1
  have hmul := mul32_quarter_range (a := two32) (by decide) (by decide) h0 h1
  obtain ⟨hmfin, hm0, -⟩ := int32_between (by decide) (by decide) hmul.1 hmul.2
  have hhi : le32 (sub32 one32 (mul32 two32 sf)) one32 = true := by
    refine sub32_le _ _ _ (by decide) hmfin (by decide) ?_
    rw [int32_zero32] at hm0
    omega
  unfold pwEff
  split
  · decide
  · have hp : isNaN32 (if lt32 pw (mul32 sf two32) then mul32 sf two32 else pw) = false := by
      split
      · exact isNaN32_mul32_finite hsf (by decide)
      · exact isNaN32_of_isFin32 pw hpw
    dsimp only
    generalize (if lt32 pw (mul32 sf two32) then mul32 sf two32 else pw) = p at hp ⊢
    split
    next => exact hhi
    next hlt => exact le32_trans (le32_total (not_isNaN32_of_le32 hhi).1 hp hlt) hhi

/-- One pass of the loop of R580 takes an advanced slave phase into [0, 1): it leaves the loop below the pulse width or below 1,
or takes 1 off the phase. -/
theorem vsoPass_inUnit (k : VsoShape) (a : VsoAcc) (hk : le32 k.pw one32 = true) (ha : Advanced a.sph) :
    InUnit (vsoPass k a).1.sph := by
  have hrise : (if a.high then a else vsoRise k a).sph = a.sph := by
    split <;> rfl
  unfold vsoPass
  dsimp only
  generalize (if a.high then a else vsoRise k a) = b at hrise ⊢
  split
  next hbreak =>
    simp only [Bool.and_eq_true] at hbreak
    exact ha.inUnit (lt32_of_lt_of_le hbreak.2 hk)
  next =>
    rw [← hrise] at ha
    split
    next hlt => exact ha.inUnit hlt
    next hge => exact sub32_one_inUnit ha (le32_total (isNaN32_of_isFin32 _ ha.1) (by decide) hge)

/-- Any positive number of passes leaves the slave phase in [0, 1), whether they leave the loop or not (R580, R581). -/
theorem vsoPasses_inUnit (k : VsoShape) (n : Nat) (a : VsoAcc) (hk : le32 k.pw one32 = true) (ha : Advanced a.sph) :
    InUnit (vsoPasses k (n + 1) a).1.sph := by
  have hpass := vsoPass_inUnit k a hk ha
  induction n generalizing a with
  | zero =>
    unfold vsoPasses
    split <;> rename_i hp <;> rw [hp] at hpass <;> exact hpass
  | succ n ih =>
    unfold vsoPasses
    split <;> rename_i hp <;> rw [hp] at hpass
    · exact hpass
    · exact ih _ hpass.advanced (vsoPass_inUnit k _ hk hpass.advanced)

/-- The patterns from 1 on count in steps of 2^-23 up to 2. -/
theorem int32_onePlus (t : Nat) (ht : t < 2 ^ 23) :
    isFin32 (pack32 false (127 * 2 ^ 23 + t)) = true ∧ int32 (pack32 false (127 * 2 ^ 23 + t)) = 2 ^ 149 + t * 2 ^ 126 := by
  have hmag : mag32 (pack32 false (127 * 2 ^ 23 + t)) = 126 * 2 ^ 23 + (2 ^ 23 + t) := by
    rw [mag32_pack32 _ _ (by omega)]
    omega
  have hval := magUnits_binade 24 126 (2 ^ 23 + t) (by omega) (by omega) (by omega)
  constructor
  · rw [isFin32_iff, hmag, inf32]
    omega
  · rw [int32_eq_signedNum, sign32_pack32 _ _ (by omega), hmag, hval]
    simp only [signedNum, Bool.false_eq_true, if_false]
    omega

/-- A sum in [1, 1.25] rounds up by at most half a unit in the last place. -/
theorem add32_le_half_ulp (a b : F32) (ha : isFin32 a = true) (hb : isFin32 b = true) (hlo : 2 ^ 149 ≤ int32 a + int32 b)
    (hhi : int32 a + int32 b ≤ 5 * 2 ^ 147) : int32 (add32 a b) ≤ int32 a + int32 b + 2 ^ 125 := by
  have hrn := isRN32_add32 a b ha hb
  unfold IsRN32 at hrn
  rw [if_neg (by omega)] at hrn
  obtain ⟨-, hnear⟩ := hrn
  generalize hk : int32 a + int32 b = k at *
  obtain ⟨t, ht⟩ : ∃ t : Nat, (t : Int) = (k - 2 ^ 149 + 2 ^ 125) / 2 ^ 126 :=
    ⟨((k - 2 ^ 149 + 2 ^ 125) / 2 ^ 126).toNat, Int.toNat_of_nonneg (by omega)⟩
  obtain ⟨hzfin, hz⟩ := int32_onePlus t (by omega)
  by_cases heq : int32 (pack32 false (127 * 2 ^ 23 + t)) = int32 (add32 a b)
  · omega
  · have := hnear _ hzfin heq
    rw [hz] at this
    omega

/-- What a phase is past 1 after its advance is at most the frequency: the phase was at most `1 - 2^-24`, and the sum's rounding
adds at most as much as that leaves. -/
theorem wrapped_le (x f : F32) (hx : InUnit x) (h0 : le32 zero32 f = true) (h1 : le32 f quarter32 = true) :
    int32 (add32 x f) - 2 ^ 149 ≤ int32 f := by
  obtain ⟨hxfin, hx0, -⟩ := (inUnit_iff x).1 hx
  obtain ⟨hffin, hf0, hf1⟩ := quarter_range h0 h1
  have hx1 := hx.int32_le
  rcases Int.lt_or_le (int32 x + int32 f) (2 ^ 149) with hk | hk
  · have hadv := advanced_add32 hx h0 h1
    have hle := add32_le x f one32 hxfin hffin (by decide) (by rw [int32_one32]; omega)
    rw [le32_iff _ _ hadv.1 (by decide), int32_one32] at hle
    omega
  · have := add32_le_half_ulp x f hxfin hffin hk (by omega)
    omega

/-- A phase that reaches 1 has been advanced by a frequency above 0. -/
theorem pos_of_wrap {x f : F32} (hx : InUnit x) (h0 : le32 zero32 f = true) (h1 : le32 f quarter32 = true)
    (h : le32 one32 (add32 x f) = true) : 0 < int32 f := by
  by_contra hne
  obtain ⟨hxfin, -, hx1⟩ := (inUnit_iff x).1 hx
  have hadv := advanced_add32 hx h0 h1
  have hle := add32_le x f x hxfin (quarter_range h0 h1).1 hxfin (by omega)
  rw [le32_iff _ _ hadv.1 hxfin] at hle
  rw [le32_iff _ _ (by decide) hadv.1, int32_one32] at h
  omega

/-- A master that has wrapped had reached 1, and 1 has been taken off its phase. -/
theorem masterAdvance_wrapped {v : Vso} (h : (masterAdvance v).2 = true) :
    le32 one32 (add32 v.mph v.mfreq) = true ∧ (masterAdvance v).1 = sub32 (add32 v.mph v.mfreq) one32 := by
  by_cases hge : le32 one32 (add32 v.mph v.mfreq) = true
  · simp [masterAdvance, hge]
  · simp [masterAdvance, hge] at h

/-- The reset time of R580 is in [0, 1]: the master is past its wrap by at most its frequency. -/
theorem resetTime_range (v : Vso) (hm : InUnit v.mph) (h0 : le32 zero32 v.mfreq = true)
    (h1 : le32 v.mfreq quarter32 = true) (hwrap : (masterAdvance v).2 = true) :
    le32 zero32 (div32 (masterAdvance v).1 v.mfreq) = true ∧ le32 (div32 (masterAdvance v).1 v.mfreq) one32 = true := by
  obtain ⟨hge, hfst⟩ := masterAdvance_wrapped hwrap
  have hadv := advanced_add32 hm h0 h1
  have hffin := (quarter_range h0 h1).1
  have hpos := pos_of_wrap hm h0 h1 hge
  obtain ⟨hw0, hw1⟩ := sub32_one_range hadv hge
  obtain ⟨hwfin, hwint, -⟩ := quarter_range hw0 hw1
  have hwle : le32 (sub32 (add32 v.mph v.mfreq) one32) v.mfreq = true := by
    refine sub32_le _ _ _ hadv.1 (by decide) hffin ?_
    rw [int32_one32]
    exact wrapped_le _ _ hm h0 h1
  rw [le32_iff _ _ hwfin hffin] at hwle
  rw [hfst]
  refine ⟨le_div32 _ _ _ hwfin hffin (by decide) hpos ?_, div32_le _ _ _ hwfin hffin (by decide) hpos ?_⟩
  · rw [int32_zero32]
    omega
  · rw [int32_one32]
    omega

/-- The parameter contract of a tick (R576), said by its parts. -/
theorem vsoInContract_iff (v : Vso) :
    vsoInContract v = true ↔
      (le32 zero32 v.mfreq = true ∧ le32 v.mfreq quarter32 = true) ∧
      (lt32 zero32 v.sfreq = true ∧ le32 v.sfreq quarter32 = true) ∧
      isFin32 v.pwReq = true ∧ within32 zero32 v.shape one32 = true := by
  simp only [vsoInContract, within32_iff, Bool.and_eq_true, and_assoc]

/-- Both phases after a tick (R580): the master's after its wrap; the slave's as the reset sets it, or else as the loop leaves it. -/
theorem vsoTick_phases (v : Vso) (hin : vsoInContract v = true) (hm : InUnit v.mph) (hs : InUnit v.sph) :
    InUnit (vsoTick v).1.mph ∧ InUnit (vsoTick v).1.sph := by
  obtain ⟨⟨hm0, hm1⟩, ⟨hs0, hs1⟩, hpw, -⟩ := (vsoInContract_iff v).1 hin
  have hs0 := le32_of_lt32 hs0
  refine ⟨masterAdvance_inUnit v hm hm0 hm1, ?_⟩
  unfold vsoTick vsoSyncPass
  dsimp only
  split
  next hreset =>
    obtain ⟨hr0, hr1⟩ := resetTime_range v hm hm0 hm1 (Bool.and_eq_true_iff.1 hreset).1
    obtain ⟨h0, h1⟩ := mul32_quarter_range hr0 (le32_trans hr1 (by decide)) hs0 hs1
    exact inUnit_of_le_half h0 h1
  next =>
    exact vsoPasses_inUnit _ 2 _ (pwEff_le_one _ _ hs0 hs1 hpw) (advanced_add32 hs hs0 hs1)

/-- A frequency that is not a NaN is limited to 0.25 (R571, R572). -/
theorem vsoFreq_le_quarter (c : Params) (hertz : F32) (h : isNaN32 (vsoFreq c hertz) = false) :
    le32 (vsoFreq c hertz) quarter32 = true := by
  unfold vsoFreq at *
  dsimp only at *
  split
  next => decide
  next hlt =>
    rw [if_neg hlt] at h
    exact le32_of_lt32 (lt32_total (by decide) h hlt)

/-- A frequency in hertz that is in contract gives one that is not negative (R571). -/
theorem vsoFreq_nonneg (c : Params) (hertz : F32) (hc : c.wf) (hfin : isFin32 hertz = true)
    (h0 : le32 zero32 hertz = true) : le32 zero32 (vsoFreq c hertz) = true := by
  unfold vsoFreq
  dsimp only
  split
  · decide
  · exact (div32_rate_range c hertz hc hfin h0).1

/-- What `VsoParamsOk` asks of the register that setter `j` writes. -/
def VsoParamOk (v : Vso) : Nat → Prop
  | 0 => within32 zero32 v.mfreq quarter32 = true
  | 1 => lt32 zero32 v.sfreq = true ∧ le32 v.sfreq quarter32 = true
  | 2 => isFin32 v.pwReq = true
  | 3 => within32 zero32 v.shape one32 = true
  | _ => True

/-- The parameters' ranges, said for each setter. -/
theorem vsoParamsOk_iff (v : Vso) : VsoParamsOk v ↔ ∀ j : Nat, vsoDefined v j = true → VsoParamOk v j := by
  constructor
  · rintro ⟨h0, h1, h2, h3⟩ j hj
    unfold VsoParamOk
    split
    · exact h0 hj
    · exact h1 hj
    · exact h2 hj
    · exact h3 hj
    · trivial
  · intro h
    exact ⟨h 0, h 1, h 2, h 3⟩

/-- The flags and marks are no parameters. -/
theorem vsoParamOk_flags (v : Vso) (wr undef : BitVec 5) (j : Nat) :
    VsoParamOk { v with wr := wr, undef := undef } j ↔ VsoParamOk v j := by
  unfold VsoParamOk
  split <;> rfl

section Setter
variable {s : State} {k : Nat} {ok : Bool} {f : Vso → Vso}

/-- There are five setters. -/
theorem VsoSetter.lt (h : VsoSetter s k ok f) : k < 5 := by
  cases h <;> decide

/-- No setter writes a phase (R571 to R575). -/
theorem VsoSetter.phases_eq (h : VsoSetter s k ok f) (v : Vso) : (f v).mph = v.mph ∧ (f v).sph = v.sph := by
  cases h <;> exact ⟨rfl, rfl⟩

/-- A setter writes no register of another setter: whichever the other is, its register is the one it was. -/
theorem VsoSetter.paramOk_other (h : VsoSetter s k ok f) {v : Vso} {j : Nat} (hj : j ≠ k) (hv : VsoParamOk v j) :
    VsoParamOk (f v) j := by
  cases h <;> unfold VsoParamOk at * <;> split at hv <;> simp_all

/-- A setter given an operand in contract stores a value in contract (R571 to R574). -/
theorem VsoSetter.paramOk_same (h : VsoSetter s k ok f) (hc : s.cfg.wf) (hok : ok = true) (v : Vso) :
    VsoParamOk (f v) k := by
  cases h with
  | master =>
    obtain ⟨hfin, h0⟩ : isFin32 (opaF32 s) = true ∧ le32 zero32 (opaF32 s) = true := by
      simpa [masterInContract] using hok
    have hlo := vsoFreq_nonneg s.cfg (opaF32 s) hc hfin h0
    exact (within32_iff ..).2 ⟨hlo, vsoFreq_le_quarter _ _ (not_isNaN32_of_le32 hlo).2⟩
  | slave =>
    obtain ⟨-, h0⟩ : isFin32 (opaF32 s) = true ∧ lt32 zero32 (vsoFreq s.cfg (opaF32 s)) = true := by
      simpa [slaveInContract] using hok
    exact ⟨h0, vsoFreq_le_quarter _ _ (not_isNaN32_of_le32 (le32_of_lt32 h0)).2⟩
  | pulseWidth => exact hok
  | shape => exact hok
  | sync => trivial

/-- A parameter that is defined after a setter was defined before, or is that setter's own and its operand was in contract. -/
theorem vsoDefined_set {v w : Vso} {k j : Nat} {ok : Bool} (hk : k < 5) (hwr : w.wr = setFlag v.wr k)
    (hundef : w.undef = markUndef v.undef k ok) (h : vsoDefined w j = true) :
    (j = k ∧ ok = true) ∨ (j ≠ k ∧ vsoDefined v j = true) := by
  unfold vsoDefined at *
  rw [hwr, hundef, getLsbD_setFlag _ _ _ hk, getLsbD_markUndef _ _ _ _ hk] at h
  by_cases hj : j = k <;> simp_all

/-- A setter keeps the parameters: its own register is in range if its operand is in contract, and otherwise marked; the other
registers, flags and marks are as they were. -/
theorem VsoSetter.paramsOk (h : VsoSetter s k ok f) (hc : s.cfg.wf) {v : Vso} (hv : VsoParamsOk v) :
    VsoParamsOk { f v with wr := setFlag v.wr k, undef := markUndef v.undef k ok } := by
  rw [vsoParamsOk_iff] at *
  intro j hj
  have hreg : VsoParamOk (f v) j := by
    rcases vsoDefined_set h.lt rfl rfl hj with ⟨rfl, hok⟩ | ⟨hne, hdef⟩
    · exact h.paramOk_same hc hok v
    · exact h.paramOk_other hne (hv j hdef)
  exact (vsoParamOk_flags (f v) _ _ j).2 hreg

end Setter

/-- `+0.0`, the phase that `OSC.CFG` stores. -/
theorem inUnit_zero32 : InUnit zero32 := by decide

/-- Oscillator phases: `OSC.CFG` stores `+0.0`, `OSC.NEXT` a fraction. -/
theorem Writes.oscPhases {s u : State} (h : Writes s u) (hc : s.cfg.wf) (hs : ∀ o ∈ s.osc, InUnit o.phase) :
    ∀ o ∈ u.osc, InUnit o.phase := by
  cases h with
  | oscCfg => exact forall_mem_set hs inUnit_zero32
  | oscNext o _ ho hfreq => exact forall_mem_set hs (oscAdvanced_inUnit s.cfg o hc (hs o (mem_of_getOsc ho)) hfreq)
  | _ => exact hs

/-- Variable-shape oscillators: the setters keep the phases, the ticks the parameters. -/
theorem Writes.vsoPhases {s u : State} (h : Writes s u) (hc : s.cfg.wf)
    (hs : ∀ v ∈ s.vso, InUnit v.mph ∧ InUnit v.sph ∧ VsoParamsOk v) :
    ∀ v ∈ u.vso, InUnit v.mph ∧ InUnit v.sph ∧ VsoParamsOk v := by
  cases h with
  | vsoSet k ok f v _ hv hset =>
    obtain ⟨hm, hsl, hparams⟩ := hs v (mem_of_getVso hv)
    obtain ⟨hmeq, hseq⟩ := hset.phases_eq v
    exact forall_mem_set hs ⟨hmeq.symm ▸ hm, hseq.symm ▸ hsl, hset.paramsOk hc hparams⟩
  | vsoTick v _ hv hin =>
    obtain ⟨hm, hsl, hparams⟩ := hs v (mem_of_getVso hv)
    obtain ⟨hm', hsl'⟩ := vsoTick_phases v hin hm hsl
    exact forall_mem_set hs ⟨hm', hsl', hparams⟩
  | _ => exact hs

/-- The reset event leaves what `PhasesOk` speaks of as it is right after reset. -/
theorem phasesOk_hostReset (s : State) : PhasesOk (hostReset s) := resetWith_phasesOk s.cfg

/-- Settles O59: only the commands of the oscillators' own units write a phase or a parameter, and each keeps its range. -/
theorem stepKeepsPhases : Obligations.StepKeepsPhases := by
  intro s t hc hs h
  rcases step_reset_or_ends s t h with rfl | ⟨-, u, st, w, hw, rfl⟩
  · exact phasesOk_hostReset s
  · exact ⟨hw.oscPhases hc hs.1, hw.vsoPhases hc hs.2⟩

end Sys2Proof.Machine
end

section
/-! The statements on the encoding (30_encoding.md). The opcode map of R86 is said once as a relation (`OpcodeRow`): the opcode
of a row, the fields it uses and the decoder of its form. The round trips and the order of the checks are then one lemma for
each of the seven forms (R81), and a case split over the rows. -/

namespace Sys2Proof

open Machine

/-! ## The opcode map -/

/-- The rows of the opcode map (30_encoding.md R86): an opcode, the fields it uses and the decoder of its form. -/
inductive OpcodeRow : BitVec 8 → FieldUse → (BitVec 32 → Except DecodeError Instr) → Prop
  | cvt : OpcodeRow 0x01#8 { df := true, sf := true } decodeCvt
  | smp : OpcodeRow 0x10#8 { df := true, wk := true, dc := true } decodeSmp
  | oscCfg : OpcodeRow 0x11#8 { wk := true, dc := true, inst := true } (decodeKindInst .oscCfg)
  | oscNext : OpcodeRow 0x12#8 { df := true, inst := true } (decodeFmtInst .oscNext)
  | oscAt : OpcodeRow 0x13#8 { df := true, inst := true } (decodeFmtInst .oscAt)
  | tblBuild : OpcodeRow 0x18#8 { wk := true, dc := true, inst := true } (decodeKindInst .tblBuild)
  | tblAlloc : OpcodeRow 0x19#8 { wk := true, dc := true } decodeAlloc
  | lutBind : OpcodeRow 0x1A#8 { inst := true } (decodeInst .lutBind)
  | lutNext : OpcodeRow 0x1B#8 { inst := true } (decodeInst .lutNext)
  | lutAt : OpcodeRow 0x1C#8 { inst := true } (decodeInst .lutAt)
  | vsoSetMaster : OpcodeRow 0x20#8 { inst := true } (decodeInst .vsoSetMaster)
  | vsoSetSlave : OpcodeRow 0x21#8 { inst := true } (decodeInst .vsoSetSlave)
  | vsoSetPw : OpcodeRow 0x22#8 { inst := true } (decodeInst .vsoSetPw)
  | vsoSetShape : OpcodeRow 0x23#8 { inst := true } (decodeInst .vsoSetShape)
  | vsoSetSync : OpcodeRow 0x24#8 { g := true, inst := true } (decodeBoolInst .vsoSetSync)
  | vsoTick : OpcodeRow 0x25#8 { inst := true } (decodeInst .vsoTick)
  | envSetAttack : OpcodeRow 0x30#8 { inst := true } (decodeInst .envSetAttack)
  | envSetDecay : OpcodeRow 0x31#8 { inst := true } (decodeInst .envSetDecay)
  | envSetRelease : OpcodeRow 0x32#8 { inst := true } (decodeInst .envSetRelease)
  | envSetSustain : OpcodeRow 0x33#8 { inst := true } (decodeInst .envSetSustain)
  | envTick : OpcodeRow 0x34#8 { g := true, inst := true } (decodeBoolInst .envTick)
  | envStat : OpcodeRow 0x35#8 { inst := true } (decodeInst .envStat)

/-- The decoder reads a word by the row of its opcode. -/
theorem OpcodeRow.decode_eq {opc : BitVec 8} {u : FieldUse} {dec : BitVec 32 → Except DecodeError Instr} {c : BitVec 32}
    (row : OpcodeRow opc u dec) (hopc : opcField c = opc) : decode c = dec c := by
  cases row <;> simp [decode, hopc]

/-- An opcode whose fields R86 lists has a row with these fields. -/
theorem exists_opcodeRow (opc : BitVec 8) (u : FieldUse) (h : usedFields opc = some u) : ∃ dec, OpcodeRow opc u dec := by
  unfold usedFields at h
  split at h
  next hopc => cases h; cases hopc; exact ⟨_, .cvt⟩
  split at h
  next hopc => cases h; cases hopc; exact ⟨_, .smp⟩
  split at h
  next hopc => cases h; rcases hopc with rfl | rfl; exacts [⟨_, .oscCfg⟩, ⟨_, .tblBuild⟩]
  split at h
  next hopc => cases h; cases hopc; exact ⟨_, .tblAlloc⟩
  split at h
  next hopc => cases h; rcases hopc with rfl | rfl; exacts [⟨_, .oscNext⟩, ⟨_, .oscAt⟩]
  split at h
  next hopc =>
    cases h
    simp only [List.mem_cons, List.not_mem_nil, or_false] at hopc
    rcases hopc with rfl | rfl | rfl | rfl | rfl | rfl | rfl | rfl | rfl | rfl | rfl | rfl | rfl
    exacts [⟨_, .lutBind⟩, ⟨_, .lutNext⟩, ⟨_, .lutAt⟩, ⟨_, .vsoSetMaster⟩, ⟨_, .vsoSetSlave⟩, ⟨_, .vsoSetPw⟩,
      ⟨_, .vsoSetShape⟩, ⟨_, .vsoTick⟩, ⟨_, .envSetAttack⟩, ⟨_, .envSetDecay⟩, ⟨_, .envSetRelease⟩, ⟨_, .envSetSustain⟩,
      ⟨_, .envStat⟩]
  split at h
  next hopc => cases h; rcases hopc with rfl | rfl; exacts [⟨_, .vsoSetSync⟩, ⟨_, .envTick⟩]
  next => cases h

/-- A word whose opcode has no row is refused for its opcode. -/
theorem decode_of_usedFields_eq_none (c : BitVec 32) (h : usedFields (opcField c) = none) :
    decode c = .error .undefinedOpcode := by
  unfold decode
  split
  case h_23 => rfl
  all_goals next hopc => rw [opcField_eq_of_toNat c _ hopc] at h; cases h

/-! ## Decoding the word of an instruction -/

section
variable {opc : BitVec 8} {u : FieldUse}

/-- A conversion's word decodes to the conversion (R116). -/
theorem decode_encodeCvt (sf df : Fmt) : decode (encodeCvt sf df) = .ok (cvtInstr sf df) := by
  rw [OpcodeRow.cvt.decode_eq (by simp [encodeCvt])]
  simp [decodeCvt, encodeCvt, unusedZero]

/-- A sample command's word decodes to the command (R508 to R512). -/
theorem decode_encodeSmp (wk : Wave) (df : Fmt) (dc : Duty) :
    decode (encodeSmp wk df dc) = .ok (smpInstr wk df dc) := by
  rw [OpcodeRow.smp.decode_eq (by simp [encodeSmp])]
  simp [decodeSmp, encodeSmp, unusedZero]

/-- A word with a kind, a duty and an instance decodes to them, the kind being no cosine (R83). -/
theorem decode_encodeKindInst {mk : Wave → Duty → BitVec 8 → Instr} (row : OpcodeRow opc u (decodeKindInst mk)) (wk : Wave)
    (dc : Duty) (inst : BitVec 8) (hwk : wk.isSourceKind = true) :
    decode (encodeKindInst opc wk dc inst) = .ok (mk wk dc inst) := by
  rw [row.decode_eq (by simp [encodeKindInst])]
  simp [decodeKindInst, encodeKindInst, unusedZero, tableKindOfCode_code wk hwk]

/-- The word of `TBL.ALLOC` decodes to its kind and duty, the kind being no cosine (R83). -/
theorem decode_encodeAlloc (wk : Wave) (dc : Duty) (hwk : wk.isSourceKind = true) :
    decode (encodeKindInst 0x19#8 wk dc 0#8) = .ok (.tblAlloc wk dc) := by
  rw [OpcodeRow.tblAlloc.decode_eq (by simp [encodeKindInst])]
  simp [decodeAlloc, encodeKindInst, unusedZero, tableKindOfCode_code wk hwk]

/-- A word with a format and an instance decodes to them (R81). -/
theorem decode_encodeFmtInst {mk : Fmt → BitVec 8 → Instr} (row : OpcodeRow opc u (decodeFmtInst mk)) (df : Fmt)
    (inst : BitVec 8) : decode (encodeFmtInst opc df inst) = .ok (mk df inst) := by
  rw [row.decode_eq (by simp [encodeFmtInst])]
  simp [decodeFmtInst, encodeFmtInst, unusedZero]

/-- A word with an instance only decodes to it (R81). -/
theorem decode_encodeInst {mk : BitVec 8 → Instr} (row : OpcodeRow opc u (decodeInst mk)) (inst : BitVec 8) :
    decode (encodeInst opc inst) = .ok (mk inst) := by
  rw [row.decode_eq (by simp [encodeInst])]
  simp [decodeInst, encodeInst, unusedZero]

/-- A word with a boolean and an instance decodes to them (R81). -/
theorem decode_encodeBoolInst {mk : Bool → BitVec 8 → Instr} (row : OpcodeRow opc u (decodeBoolInst mk)) (g : Bool)
    (inst : BitVec 8) : decode (encodeBoolInst opc g inst) = .ok (mk g inst) := by
  rw [row.decode_eq (by simp [encodeBoolInst])]
  cases g <;> simp [decodeBoolInst, encodeBoolInst, unusedZero]

end

/-- Settles O1: each instruction's word decodes by its row. The 196 conversions are the last case, the pair of formats being the
one that the encoder gives each of them. -/
theorem decodeInvertsEncode : Obligations.DecodeInvertsEncode := by
  intro i hi
  cases i with
  | smpSin df dc => exact decode_encodeSmp .sin df dc
  | smpSaw df dc => exact decode_encodeSmp .saw df dc
  | smpTri df dc => exact decode_encodeSmp .tri df dc
  | smpSqr df dc => exact decode_encodeSmp .sqr df dc
  | smpCos df dc => exact decode_encodeSmp .cos df dc
  | oscCfg wk dc inst => exact decode_encodeKindInst .oscCfg wk dc inst hi
  | oscNext df inst => exact decode_encodeFmtInst .oscNext df inst
  | oscAt df inst => exact decode_encodeFmtInst .oscAt df inst
  | tblBuild wk dc inst => exact decode_encodeKindInst .tblBuild wk dc inst hi
  | tblAlloc wk dc => exact decode_encodeAlloc wk dc hi
  | lutBind inst => exact decode_encodeInst .lutBind inst
  | lutNext inst => exact decode_encodeInst .lutNext inst
  | lutAt inst => exact decode_encodeInst .lutAt inst
  | vsoSetMaster inst => exact decode_encodeInst .vsoSetMaster inst
  | vsoSetSlave inst => exact decode_encodeInst .vsoSetSlave inst
  | vsoSetPw inst => exact decode_encodeInst .vsoSetPw inst
  | vsoSetShape inst => exact decode_encodeInst .vsoSetShape inst
  | vsoSetSync g inst => exact decode_encodeBoolInst .vsoSetSync g inst
  | vsoTick inst => exact decode_encodeInst .vsoTick inst
  | envSetAttack inst => exact decode_encodeInst .envSetAttack inst
  | envSetDecay inst => exact decode_encodeInst .envSetDecay inst
  | envSetRelease inst => exact decode_encodeInst .envSetRelease inst
  | envSetSustain inst => exact decode_encodeInst .envSetSustain inst
  | envTick g inst => exact decode_encodeBoolInst .envTick g inst
  | envStat inst => exact decode_encodeInst .envStat inst
  | _ => exact decode_encodeCvt _ _

/-! ## Encoding what a word decodes to -/

/-- A conversion is well-formed. -/
theorem wellFormed_cvtInstr (sf df : Fmt) : (cvtInstr sf df).wellFormed = true := by
  cases sf <;> cases df <;> rfl

/-- A sample command is well-formed: it admits the cosine (R83). -/
theorem wellFormed_smpInstr (wk : Wave) (df : Fmt) (dc : Duty) : (smpInstr wk df dc).wellFormed = true := by
  cases wk <;> rfl

/-- A command word is the one packed from its fields, given one by one. -/
theorem packCommand_eq {c : BitVec 32} {opc : BitVec 8} {df sf wk : BitVec 4} {dc : BitVec 2} {g z : BitVec 1}
    {inst : BitVec 8} (hopc : opcField c = opc) (hdf : dfField c = df) (hsf : sfField c = sf) (hwk : wkField c = wk)
    (hdc : dcField c = dc) (hg : gField c = g) (hz : zField c = z) (hinst : instField c = inst) :
    packCommand opc df sf wk dc g z inst = c := by
  subst hopc hdf hsf hwk hdc hg hz hinst
  exact packCommand_fields c

/-- A boolean field is the bit of its value (R80). -/
theorem ofBool_beq_one (g : BitVec 1) : BitVec.ofBool (g == 1#1) = g := by
  revert g
  decide

section
variable {opc : BitVec 8} {c : BitVec 32} {i : Instr}

/-- What `CVT` decodes to has the word it was decoded from (R116). -/
theorem encode_of_decodeCvt (hopc : opcField c = 0x01#8) (h : decodeCvt c = .ok i) :
    encode i = c ∧ i.wellFormed = true := by
  unfold decodeCvt at h
  split at h
  next hu =>
    split at h
    next sf df hsf hdf =>
      cases h
      obtain ⟨-, -, hwk, hdc, hg, hz, hinst⟩ := (unusedZero_iff _ c).1 hu
      rw [encode_cvtInstr]
      exact ⟨packCommand_eq hopc (code_of_fmtOfCode _ _ hdf).symm (code_of_fmtOfCode _ _ hsf).symm (by simpa using hwk)
        (by simpa using hdc) (by simpa using hg) hz (by simpa using hinst), wellFormed_cvtInstr sf df⟩
    next => cases h
  next => cases h

/-- What `SMP` decodes to has the word it was decoded from (R508 to R512). -/
theorem encode_of_decodeSmp (hopc : opcField c = 0x10#8) (h : decodeSmp c = .ok i) :
    encode i = c ∧ i.wellFormed = true := by
  unfold decodeSmp at h
  split at h
  next hu =>
    split at h
    next => cases h
    next df hdf =>
      split at h
      next => cases h
      next wk hwk =>
        cases h
        obtain ⟨-, hsf, -, -, hg, hz, hinst⟩ := (unusedZero_iff _ c).1 hu
        rw [encode_smpInstr]
        exact ⟨packCommand_eq hopc (code_of_fmtOfCode _ _ hdf).symm (by simpa using hsf) (code_of_waveOfCode _ _ hwk).symm
          (code_dutyOfCode _).symm (by simpa using hg) hz (by simpa using hinst), wellFormed_smpInstr wk df _⟩
  next => cases h

/-- What a word with a kind, a duty and an instance decodes to has that word, and its kind is no cosine (R83). -/
theorem encode_of_decodeKindInst {mk : Wave → Duty → BitVec 8 → Instr}
    (hmk : ∀ wk dc inst, encode (mk wk dc inst) = encodeKindInst opc wk dc inst ∧
      (mk wk dc inst).wellFormed = wk.isSourceKind)
    (hopc : opcField c = opc) (h : decodeKindInst mk c = .ok i) : encode i = c ∧ i.wellFormed = true := by
  unfold decodeKindInst at h
  split at h
  next hu =>
    split at h
    next => cases h
    next wk hwk =>
      cases h
      obtain ⟨hcode, hkind⟩ := tableKindOfCode_eq_some _ _ hwk
      obtain ⟨hdf, hsf, -, -, hg, hz, -⟩ := (unusedZero_iff _ c).1 hu
      obtain ⟨henc, hwf⟩ := hmk wk (dutyOfCode (dcField c)) (instField c)
      rw [henc, hwf]
      exact ⟨packCommand_eq hopc (by simpa using hdf) (by simpa using hsf) hcode.symm (code_dutyOfCode _).symm
        (by simpa using hg) hz rfl, hkind⟩
  next => cases h

/-- What `TBL.ALLOC` decodes to has the word it was decoded from, and its kind is no cosine (R546, R83). -/
theorem encode_of_decodeAlloc (hopc : opcField c = 0x19#8) (h : decodeAlloc c = .ok i) :
    encode i = c ∧ i.wellFormed = true := by
  unfold decodeAlloc at h
  split at h
  next hu =>
    split at h
    next => cases h
    next wk hwk =>
      cases h
      obtain ⟨hcode, hkind⟩ := tableKindOfCode_eq_some _ _ hwk
      obtain ⟨hdf, hsf, -, -, hg, hz, hinst⟩ := (unusedZero_iff _ c).1 hu
      exact ⟨packCommand_eq hopc (by simpa using hdf) (by simpa using hsf) hcode.symm (code_dutyOfCode _).symm
        (by simpa using hg) hz (by simpa using hinst), hkind⟩
  next => cases h

/-- What a word with a format and an instance decodes to has that word (R81). -/
theorem encode_of_decodeFmtInst {mk : Fmt → BitVec 8 → Instr}
    (hmk : ∀ df inst, encode (mk df inst) = encodeFmtInst opc df inst ∧ (mk df inst).wellFormed = true)
    (hopc : opcField c = opc) (h : decodeFmtInst mk c = .ok i) : encode i = c ∧ i.wellFormed = true := by
  unfold decodeFmtInst at h
  split at h
  next hu =>
    split at h
    next => cases h
    next df hdf =>
      cases h
      obtain ⟨-, hsf, hwk, hdc, hg, hz, -⟩ := (unusedZero_iff _ c).1 hu
      obtain ⟨henc, hwf⟩ := hmk df (instField c)
      rw [henc]
      exact ⟨packCommand_eq hopc (code_of_fmtOfCode _ _ hdf).symm (by simpa using hsf) (by simpa using hwk)
        (by simpa using hdc) (by simpa using hg) hz rfl, hwf⟩
  next => cases h

/-- What a word with an instance only decodes to has that word (R81). -/
theorem encode_of_decodeInst {mk : BitVec 8 → Instr}
    (hmk : ∀ inst, encode (mk inst) = encodeInst opc inst ∧ (mk inst).wellFormed = true)
    (hopc : opcField c = opc) (h : decodeInst mk c = .ok i) : encode i = c ∧ i.wellFormed = true := by
  unfold decodeInst at h
  split at h
  next hu =>
    cases h
    obtain ⟨hdf, hsf, hwk, hdc, hg, hz, -⟩ := (unusedZero_iff _ c).1 hu
    obtain ⟨henc, hwf⟩ := hmk (instField c)
    rw [henc]
    exact ⟨packCommand_eq hopc (by simpa using hdf) (by simpa using hsf) (by simpa using hwk) (by simpa using hdc)
      (by simpa using hg) hz rfl, hwf⟩
  next => cases h

/-- What a word with a boolean and an instance decodes to has that word (R81). -/
theorem encode_of_decodeBoolInst {mk : Bool → BitVec 8 → Instr}
    (hmk : ∀ g inst, encode (mk g inst) = encodeBoolInst opc g inst ∧ (mk g inst).wellFormed = true)
    (hopc : opcField c = opc) (h : decodeBoolInst mk c = .ok i) : encode i = c ∧ i.wellFormed = true := by
  unfold decodeBoolInst at h
  split at h
  next hu =>
    cases h
    obtain ⟨hdf, hsf, hwk, hdc, -, hz, -⟩ := (unusedZero_iff _ c).1 hu
    obtain ⟨henc, hwf⟩ := hmk (gField c == 1#1) (instField c)
    rw [henc]
    exact ⟨packCommand_eq hopc (by simpa using hdf) (by simpa using hsf) (by simpa using hwk) (by simpa using hdc)
      (ofBool_beq_one _).symm hz rfl, hwf⟩
  next => cases h

/-- What a word decodes to by its row has that word; the rows of format I are the last case. -/
theorem OpcodeRow.encode_of_ok {u : FieldUse} {dec : BitVec 32 → Except DecodeError Instr} (row : OpcodeRow opc u dec)
    (hopc : opcField c = opc) (h : dec c = .ok i) : encode i = c ∧ i.wellFormed = true := by
  cases row with
  | cvt => exact encode_of_decodeCvt hopc h
  | smp => exact encode_of_decodeSmp hopc h
  | oscCfg | tblBuild => exact encode_of_decodeKindInst (fun _ _ _ => ⟨rfl, rfl⟩) hopc h
  | tblAlloc => exact encode_of_decodeAlloc hopc h
  | oscNext | oscAt => exact encode_of_decodeFmtInst (fun _ _ => ⟨rfl, rfl⟩) hopc h
  | vsoSetSync | envTick => exact encode_of_decodeBoolInst (fun _ _ => ⟨rfl, rfl⟩) hopc h
  | _ => exact encode_of_decodeInst (fun _ => ⟨rfl, rfl⟩) hopc h

end

/-- Settles O2: an accepted word has a row, and what it decodes to by that row has that word. -/
theorem encodeInvertsDecode : Obligations.EncodeInvertsDecode := by
  intro c i h
  cases hu : usedFields (opcField c) with
  | none => simp [decode_of_usedFields_eq_none c hu] at h
  | some u =>
    obtain ⟨dec, row⟩ := exists_opcodeRow _ u hu
    exact row.encode_of_ok rfl ((row.decode_eq rfl).symm.trans h)

/-! ## The checks in their order -/

/-- Codes 14 and 15 name no format (R82). -/
theorem fmtOfCode_eq_none_iff (k : BitVec 4) : fmtOfCode k = none ↔ 14 ≤ k.toNat := by
  revert k
  decide

/-- Codes above 4 name no Waveform Kind (R83). -/
theorem waveOfCode_eq_none_iff (k : BitVec 4) : waveOfCode k = none ↔ 4 < k.toNat := by
  revert k
  decide

/-- Codes from the cosine's on name no kind of a command other than `SMP` (R83). -/
theorem tableKindOfCode_eq_none_iff (k : BitVec 4) : tableKindOfCode k = none ↔ 4 < k.toNat ∨ k.toNat = 4 := by
  revert k
  decide

/-- The answer to the word `c` is that of the checks (2) to (4) of 30_encoding.md R88 in their order, for an opcode that uses
the fields `u`. -/
inductive ChecksInOrder (u : FieldUse) (c : BitVec 32) : Except DecodeError Instr → Prop
  | unusedField (hunused : unusedZero u c = false) : ChecksInOrder u c (.error .unusedField)
  | reservedFormat (hunused : unusedZero u c = true) (hfmt : ReservedFormat u c) :
      ChecksInOrder u c (.error .reservedFormat)
  | reservedKind (hunused : unusedZero u c = true) (hfmt : ¬ReservedFormat u c) (hkind : ReservedKind u c) :
      ChecksInOrder u c (.error .reservedKind)
  | accepted (hunused : unusedZero u c = true) (hfmt : ¬ReservedFormat u c) (hkind : ¬ReservedKind u c) (i : Instr) :
      ChecksInOrder u c (.ok i)

section
variable (c : BitVec 32)

/-- `CVT` checks two formats. -/
theorem decodeCvt_checks : ChecksInOrder { df := true, sf := true } c (decodeCvt c) := by
  unfold decodeCvt
  split
  next hu =>
    split
    next sf df hsf hdf => exact .accepted hu (by simp [ReservedFormat, ← fmtOfCode_eq_none_iff, hsf, hdf]) (by simp) _
    next hnone =>
      refine .reservedFormat hu ?_
      simp only [ReservedFormat, ← fmtOfCode_eq_none_iff]
      cases hdf : fmtOfCode (dfField c) with
      | none => simp
      | some df =>
        cases hsf : fmtOfCode (sfField c) with
        | none => simp
        | some sf => exact absurd hdf (hnone sf df hsf)
  next hu => exact .unusedField (by simpa using hu)

/-- `SMP` checks a format, then a kind, which may be the cosine. -/
theorem decodeSmp_checks (hopc : opcField c = 0x10#8) :
    ChecksInOrder { df := true, wk := true, dc := true } c (decodeSmp c) := by
  unfold decodeSmp
  split
  next hu =>
    split
    next hdf => exact .reservedFormat hu (by simp [ReservedFormat, ← fmtOfCode_eq_none_iff, hdf])
    next df hdf =>
      have hfmt : ¬ReservedFormat { df := true, wk := true, dc := true } c := by
        simp [ReservedFormat, ← fmtOfCode_eq_none_iff, hdf]
      split
      next hwk => exact .reservedKind hu hfmt (by simp [ReservedKind, ← waveOfCode_eq_none_iff, hwk])
      next wk hwk => exact .accepted hu hfmt (by simp [ReservedKind, ← waveOfCode_eq_none_iff, hwk, hopc]) _
  next hu => exact .unusedField (by simpa using hu)

/-- `OSC.CFG` and `TBL.BUILD` check a kind, which may not be the cosine. -/
theorem decodeKindInst_checks (mk : Wave → Duty → BitVec 8 → Instr) (hopc : opcField c ≠ 0x10#8) :
    ChecksInOrder { wk := true, dc := true, inst := true } c (decodeKindInst mk c) := by
  unfold decodeKindInst
  split
  next hu =>
    split
    next hwk => exact .reservedKind hu (by simp) (by simp [ReservedKind, hopc, ← tableKindOfCode_eq_none_iff, hwk])
    next wk hwk => exact .accepted hu (by simp) (by simp [ReservedKind, hopc, ← tableKindOfCode_eq_none_iff, hwk]) _
  next hu => exact .unusedField (by simpa using hu)

/-- `TBL.ALLOC` checks a kind, which may not be the cosine. -/
theorem decodeAlloc_checks (hopc : opcField c ≠ 0x10#8) :
    ChecksInOrder { wk := true, dc := true } c (decodeAlloc c) := by
  unfold decodeAlloc
  split
  next hu =>
    split
    next hwk => exact .reservedKind hu (by simp) (by simp [ReservedKind, hopc, ← tableKindOfCode_eq_none_iff, hwk])
    next wk hwk => exact .accepted hu (by simp) (by simp [ReservedKind, hopc, ← tableKindOfCode_eq_none_iff, hwk]) _
  next hu => exact .unusedField (by simpa using hu)

/-- `OSC.NEXT` and `OSC.AT` check a format. -/
theorem decodeFmtInst_checks (mk : Fmt → BitVec 8 → Instr) :
    ChecksInOrder { df := true, inst := true } c (decodeFmtInst mk c) := by
  unfold decodeFmtInst
  split
  next hu =>
    split
    next hdf => exact .reservedFormat hu (by simp [ReservedFormat, ← fmtOfCode_eq_none_iff, hdf])
    next df hdf => exact .accepted hu (by simp [ReservedFormat, ← fmtOfCode_eq_none_iff, hdf]) (by simp) _
  next hu => exact .unusedField (by simpa using hu)

/-- The commands with an instance only have no code to check. -/
theorem decodeInst_checks (mk : BitVec 8 → Instr) : ChecksInOrder { inst := true } c (decodeInst mk c) := by
  unfold decodeInst
  split
  next hu => exact .accepted hu (by simp) (by simp) _
  next hu => exact .unusedField (by simpa using hu)

/-- The commands with a boolean and an instance have no code to check. -/
theorem decodeBoolInst_checks (mk : Bool → BitVec 8 → Instr) :
    ChecksInOrder { g := true, inst := true } c (decodeBoolInst mk c) := by
  unfold decodeBoolInst
  split
  next hu => exact .accepted hu (by simp) (by simp) _
  next hu => exact .unusedField (by simpa using hu)

end

/-- Every row checks in the order of R88; the rows of format I are the last case. -/
theorem OpcodeRow.checks {opc : BitVec 8} {u : FieldUse} {dec : BitVec 32 → Except DecodeError Instr}
    (row : OpcodeRow opc u dec) (c : BitVec 32) (hopc : opcField c = opc) : ChecksInOrder u c (dec c) := by
  cases row with
  | cvt => exact decodeCvt_checks c
  | smp => exact decodeSmp_checks c hopc
  | oscCfg | tblBuild => exact decodeKindInst_checks c _ (by simp [hopc])
  | tblAlloc => exact decodeAlloc_checks c (by simp [hopc])
  | oscNext | oscAt => exact decodeFmtInst_checks c _
  | vsoSetSync | envTick => exact decodeBoolInst_checks c _
  | _ => exact decodeInst_checks c _

/-- A word whose opcode has a row is checked in the order of R88. -/
theorem decode_checks (c : BitVec 32) (u : FieldUse) (h : usedFields (opcField c) = some u) :
    ChecksInOrder u c (decode c) := by
  obtain ⟨dec, row⟩ := exists_opcodeRow _ u h
  rw [row.decode_eq rfl]
  exact row.checks c rfl

/-- A refused word as a command is illegal and writes nothing else (R88, R702). -/
theorem step_of_decode_error (s : State) (e : DecodeError) (hrst : s.rst = false) (h : decode s.cmd = .error e) :
    step s = .next (finish s .illegal 0#64) := by
  rcases step_cases s with ⟨hr, -⟩ | ⟨-, -, hstep⟩ | ⟨-, i, hdec, -⟩
  · simp [hrst] at hr
  · exact hstep
  · simp [h] at hdec

/-- Settles O4: the word's row checks in the order of R88, and each clause picks one of the four answers. -/
theorem decoderRefusesInOrder : Obligations.DecoderRefusesInOrder := by
  intro c
  refine ⟨decode_of_usedFields_eq_none c, fun u hu => ?_, fun s e hrst hc h => step_of_decode_error s e hrst (hc ▸ h)⟩
  have hchecks := decode_checks c u hu
  generalize decode c = r at hchecks
  cases hchecks with
  | unusedField hunused => simp [hunused]
  | reservedFormat hunused hfmt => simp [hunused, hfmt]
  | reservedKind hunused hfmt hkind => simp [hunused, hfmt, hkind]
  | accepted hunused hfmt hkind i => simp [hunused, hfmt, hkind]

end Sys2Proof
end

section
/-! An index out of range (R85, R88 (5)), and the conversions as a whole (40_convert.md R111 to R122). -/

namespace Sys2Proof.Machine

/-! ## An index out of range -/

section
variable {s : State} {i : BitVec 8}

/-- `OSC.CFG` without its instance is illegal, whatever the kind. -/
theorem execOscCfg_of_none (h : getOsc s i = none) (wk : Wave) (dc : Duty) : execOscCfg wk dc i s = raiseIllegal s := by
  simp [execOscCfg, h]

/-- `OSC.NEXT` without its instance is illegal. -/
theorem execOscNext_of_none (h : getOsc s i = none) (df : Fmt) : execOscNext df i s = raiseIllegal s := by
  simp [execOscNext, h]

/-- `OSC.AT` without its instance is illegal. -/
theorem execOscAt_of_none (h : getOsc s i = none) (df : Fmt) : execOscAt df i s = raiseIllegal s := by
  simp [execOscAt, h]

/-- `TBL.BUILD` without its buffer is illegal, whatever the kind. -/
theorem execTblBuild_of_none (h : s.cfg.nPriv ≤ i.toNat) (wk : Wave) (dc : Duty) :
    execTblBuild wk dc i s = raiseIllegal s := by
  simp [execTblBuild, List.getElem?_eq_none h]

/-- `LUT.BIND` without its instance is illegal. -/
theorem execLutBind_of_none (h : getLut s i = none) : execLutBind i s = raiseIllegal s := by
  simp [execLutBind, h]

/-- `LUT.NEXT` without its instance is illegal. -/
theorem execLutNext_of_none (h : getLut s i = none) : execLutNext i s = raiseIllegal s := by
  simp [execLutNext, h]

/-- `LUT.AT` without its instance is illegal. -/
theorem execLutAt_of_none (h : getLut s i = none) : execLutAt i s = raiseIllegal s := by
  simp [execLutAt, h]

/-- A setter of a variable-shape oscillator without its instance is illegal, whatever its operand. -/
theorem vsoSet_of_none (h : getVso s i = none) (k : Nat) (ok : Bool) (f : Vso → Vso) :
    vsoSet i k ok f s = raiseIllegal s := by
  simp [vsoSet, h]

/-- `VSO.TICK` without its instance is illegal. -/
theorem execVsoTick_of_none (h : getVso s i = none) : execVsoTick i s = raiseIllegal s := by
  simp [execVsoTick, h]

/-- A setter of an envelope without its instance is illegal, whatever its operands. -/
theorem envSet_of_none (h : getEnv s i = none) (k n : Nat) (ok : Bool) (good bad : Env → Env) :
    envSet i k n ok good bad s = raiseIllegal s := by
  simp [envSet, h]

/-- `ENV.TICK` without its instance is illegal. -/
theorem execEnvTick_of_none (h : getEnv s i = none) (g : Bool) : execEnvTick g i s = raiseIllegal s := by
  simp [execEnvTick, h]

/-- `ENV.STAT` without its instance is illegal. -/
theorem execEnvStat_of_none (h : getEnv s i = none) : execEnvStat i s = raiseIllegal s := by
  simp [execEnvStat, h]

end

/-- Settles O49: an index at or above the count finds no instance, and every command of the unit is then illegal. -/
theorem indexOutOfRangeIllegal : Obligations.IndexOutOfRangeIllegal := by
  rintro i s r wk dc df g rfl
  refine ⟨fun h => ?osc, fun h => execTblBuild_of_none h wk dc, fun h => ?lut, fun h => ?vso, fun h => ?env⟩
  case osc =>
    have hnone := (getOsc_eq_none s i).2 (.inl h)
    exact ⟨execOscCfg_of_none hnone wk dc, execOscNext_of_none hnone df, execOscAt_of_none hnone df⟩
  case lut =>
    have hnone := (getLut_eq_none s i).2 (.inl h)
    exact ⟨execLutBind_of_none hnone, execLutNext_of_none hnone, execLutAt_of_none hnone⟩
  case vso =>
    have hnone := (getVso_eq_none s i).2 (.inl h)
    have hset := vsoSet_of_none hnone
    exact ⟨hset _ _ _, hset _ _ _, hset _ _ _, hset _ _ _, hset _ _ _, execVsoTick_of_none hnone⟩
  case env =>
    have hnone := (getEnv_eq_none s i).2 (.inl h)
    have hset := envSet_of_none hnone
    exact ⟨hset _ _ _ _ _, hset _ _ _ _ _, hset _ _ _ _ _, hset _ _ _ _ _, execEnvTick_of_none hnone g,
      execEnvStat_of_none hnone⟩

/-! ## The conversions -/

/-- The word of an integer's conversion, by the class of its destination (R116). -/
theorem cvtWord_of_isInt (sf df : Fmt) (w : Word) (hsf : sf.isInt = true) :
    cvtWord sf df w =
      if df = .f32 then encF32 (cvtIntF32 sf w) else if df = .f64 then cvtIntF64 sf w else cvtIntInt sf df w := by
  cases sf with
  | f32 | f64 => cases hsf
  | _ => cases df <;> rfl

/-- The signed-domain value of an `n`-bit integer sample is in the range of `n`-bit two's complement (R113). -/
theorem signedVal_range (f : Fmt) (w : Word) :
    -2 ^ (f.width - 1) ≤ signedVal f w ∧ signedVal f w < 2 ^ (f.width - 1) := by
  obtain ⟨h0, -⟩ := fmt_width_bounds f
  have hpow : (2 : Int) ^ f.width = 2 * 2 ^ (f.width - 1) := by rw [← pow_succ', Nat.sub_add_cancel h0]
  unfold signedVal sampleVal
  split
  · exact ⟨BitVec.le_toInt _, BitVec.toInt_lt⟩
  · have hlt : ((w.setWidth f.width).toNat : Int) < 2 ^ f.width := by exact_mod_cast (w.setWidth f.width).isLt
    omega

/-- Rescaling from `n` to `m` bits keeps the range of two's complement (R117). -/
theorem rescale_range (n m : Nat) (t : Int) (hn : 0 < n) (hm : 0 < m) (hlo : -2 ^ (n - 1) ≤ t) (hhi : t < 2 ^ (n - 1)) :
    -2 ^ (m - 1) ≤ rescale n m t ∧ rescale n m t < 2 ^ (m - 1) := by
  unfold rescale
  split
  next hle =>
    have hpow : (2 : Int) ^ (m - 1) = 2 ^ (n - 1) * 2 ^ (m - n) := by rw [← pow_add]; congr 1; omega
    have hpos : (0 : Int) < 2 ^ (m - n) := by positivity
    rw [hpow, ← neg_mul]
    exact ⟨mul_le_mul_of_nonneg_right hlo hpos.le, mul_lt_mul_of_pos_right hhi hpos⟩
  next hgt =>
    have hpow : (2 : Int) ^ (n - 1) = 2 ^ (m - 1) * 2 ^ (n - m) := by rw [← pow_add]; congr 1; omega
    have hpos : (0 : Int) < 2 ^ (n - m) := by positivity
    rw [hpow] at hlo hhi
    exact ⟨(Int.le_ediv_iff_mul_le hpos).2 (by rwa [neg_mul]), Int.ediv_lt_of_lt_mul hpos hhi⟩

/-- An integer's conversion gives a canonical word (R117, R118). -/
theorem canonical_cvtWord_of_isInt (sf df : Fmt) (w : Word) (hsf : sf.isInt = true) :
    canonical df (cvtWord sf df w) = cvtWord sf df w := by
  rw [cvtWord_of_isInt sf df w hsf]
  split
  next hdf => rw [hdf, canonical_encF32]
  next =>
    split
    next hdf => rw [hdf]; rfl
    next =>
      obtain ⟨hlo, hhi⟩ := signedVal_range sf w
      obtain ⟨hlo', hhi'⟩ := rescale_range sf.width df.width _ (fmt_width_bounds sf).1 (fmt_width_bounds df).1 hlo hhi
      exact canonical_encSigned df _ hlo' hhi'

/-- The magnitude of a binary64 in contract is at most that of 1.0, and below it if the value is not negative (R114). -/
theorem units64_of_inContract (w : Word) (h : inContract .f64 w = true) :
    units64 w ≤ 2 ^ 1074 ∧ (sign64 w = false → units64 w < 2 ^ 1074) := by
  have hone : magUnits 53 0x3FF0000000000000 = 2 ^ 1074 := by decide +kernel
  have hsneg : sign64 0xBFF0000000000000#64 = true := by decide
  have hspos : sign64 0x3FF0000000000000#64 = false := by decide
  have hmneg : mag64 0xBFF0000000000000#64 = 0x3FF0000000000000 := by decide
  have hmpos : mag64 0x3FF0000000000000#64 = 0x3FF0000000000000 := by decide
  simp only [inContract, le64, lt64, key64, hsneg, hspos, hmneg, hmpos, Bool.and_eq_true, decide_eq_true_eq] at h
  obtain ⟨⟨-, hlo⟩, -, hhi⟩ := h
  unfold units64
  rw [← hone, magUnits_le_iff 53 _ _ (by decide), magUnits_lt_iff 53 _ _ (by decide)]
  cases hs : sign64 w <;> simp [hs] at hlo hhi ⊢ <;> omega

/-- A conversion from binary64 in contract gives a canonical word: the truncated product is in range (R119). -/
theorem canonical_cvtF64Int (b : Fmt) (w : Word) (h : inContract .f64 w = true) :
    canonical b (cvtF64Int b w) = cvtF64Int b w := by
  obtain ⟨hle, hlt⟩ := units64_of_inContract w h
  have hpos : 0 < 2 ^ (b.width - 1) := by positivity
  have hqle : units64 w * 2 ^ (b.width - 1) / 2 ^ 1074 ≤ 2 ^ (b.width - 1) :=
    Nat.div_le_of_le_mul (Nat.mul_le_mul_right _ hle)
  have hqlt (hs : sign64 w = false) : units64 w * 2 ^ (b.width - 1) / 2 ^ 1074 < 2 ^ (b.width - 1) :=
    Nat.div_lt_of_lt_mul (Nat.mul_lt_mul_of_pos_right (hlt hs) hpos)
  have hrange : -2 ^ (b.width - 1) ≤ signedNat (sign64 w) (units64 w * 2 ^ (b.width - 1) / 2 ^ 1074) ∧
      signedNat (sign64 w) (units64 w * 2 ^ (b.width - 1) / 2 ^ 1074) < 2 ^ (b.width - 1) := by
    generalize units64 w * 2 ^ (b.width - 1) / 2 ^ 1074 = q at *
    zify at hpos hqle hqlt
    cases hs : sign64 w <;> simp only [signedNat, Bool.false_eq_true, if_true, if_false]
    · have := hqlt hs
      omega
    · omega
  exact canonical_encSigned b _ hrange.1 hrange.2

/-- A conversion from binary64 gives a canonical word, in contract and out of it (R119, R120, R122). -/
theorem canonical_cvtResult_f64 (b : Fmt) (w : Word) : canonical b (cvtResult .f64 b w) = cvtResult .f64 b w := by
  unfold cvtResult
  split
  next => exact canonical_canonical b _
  next hc =>
    have hin : inContract .f64 w = true := by simpa [Fmt.isFloat] using hc
    cases b with
    | f32 => exact canonical_encF32 _
    | f64 => rfl
    | _ => exact canonical_cvtF64Int _ w hin

/-- An integer is always in contract: its result is the word of its class (R114). -/
theorem cvtResult_of_isInt (sf df : Fmt) (w : Word) (hsf : sf.isInt = true) : cvtResult sf df w = cvtWord sf df w := by
  have hfloat : sf.isFloat = false := by simpa [Fmt.isInt] using hsf
  simp [cvtResult, hfloat]

/-- An operand in contract gives the word of its class (R116). -/
theorem cvtResult_of_inContract (sf df : Fmt) (w : Word) (h : inContract sf w = true) :
    cvtResult sf df w = cvtWord sf df w := by
  simp [cvtResult, h]

/-- Every conversion gives a canonical word (R115, R122). -/
theorem canonical_cvtResult (sf df : Fmt) (w : Word) : canonical df (cvtResult sf df w) = cvtResult sf df w := by
  cases sf with
  | f32 => exact canonical_cvtResult_f32 df w
  | f64 => exact canonical_cvtResult_f64 df w
  | _ =>
    rw [cvtResult_of_isInt _ df w rfl]
    exact canonical_cvtWord_of_isInt _ df w rfl

/-- Words with the same low bits are the same sample (R111). -/
theorem setWidth_eq_of_mod_eq {n : Nat} {v w : Word} (h : v.toNat % 2 ^ n = w.toNat % 2 ^ n) :
    v.setWidth n = w.setWidth n := by
  apply BitVec.eq_of_toNat_eq
  simpa using h

/-- An integer's conversion reads the sample's value only (R87, R113). -/
theorem cvtWord_congr_of_isInt (sf df : Fmt) (v w : Word) (hsf : sf.isInt = true)
    (h : v.setWidth sf.width = w.setWidth sf.width) : cvtWord sf df v = cvtWord sf df w := by
  have hval : signedVal sf v = signedVal sf w := by simp only [signedVal, sampleVal, h]
  simp only [cvtWord_of_isInt _ _ _ hsf, cvtIntF32, cvtIntF64, cvtIntInt, hval]

/-- A conversion reads the bits of its operand within the width of the source format only (R87, R111). -/
theorem cvtResult_congr (sf df : Fmt) (v w : Word) (h : v.setWidth sf.width = w.setWidth sf.width) :
    cvtResult sf df v = cvtResult sf df w := by
  have hoob : oob sf df v = oob sf df w := oob_of_canonical_eq sf df v w (by simp only [canonical_eq, h])
  cases sf with
  | f32 =>
    have hval : f32Of v = f32Of w := h
    have hin : inContract .f32 v = inContract .f32 w := by simp only [inContract, hval]
    have hword : cvtWord .f32 df v = cvtWord .f32 df w := by cases df <;> simp only [cvtWord, hval]
    simp only [cvtResult, hoob, hin, hword]
  | f64 =>
    have hval : v = w := by simpa [Fmt.width] using h
    rw [hval]
  | _ =>
    rw [cvtResult_of_isInt _ df v rfl, cvtResult_of_isInt _ df w rfl]
    exact cvtWord_congr_of_isInt _ df v w rfl h

/-- Settles O7: every `CVT` command is `convert`, whose result has the three properties by the class of its source. -/
theorem cvtCompletes : Obligations.CvtCompletes := by
  intro sf df s
  refine ⟨exec_cvtInstr sf df s, ?_, canonical_cvtResult sf df s.opa,
    fun w h => cvtResult_congr sf df w s.opa (setWidth_eq_of_mod_eq h)⟩
  rintro (hint | hin)
  · exact cvtResult_of_isInt sf df s.opa hint
  · exact cvtResult_of_inContract sf df s.opa hin

end Sys2Proof.Machine
end

section
/-! The conversions between integer formats and to the same format (40_convert.md R113, R117, R121, R122, R126), and the words of
the spec's worked examples. An integer conversion is `rescale` on signed-domain values; on bit patterns it is the same shift
of the value with the destination's bias. -/

namespace Sys2Proof.Machine

/-! ## The signed domain -/

section
variable {n m : Nat}

/-- A power of two is twice the one before it. -/
theorem two_pow_eq_twice {R : Type} [CommSemiring R] (h : 0 < n) : (2 : R) ^ n = 2 * 2 ^ (n - 1) := by
  rw [← pow_succ', Nat.sub_add_cancel h]

/-- Inverting bit `n - 1` of an `n`-bit pattern adds `2 ^ (n - 1)` to it, without a carry out (R113). -/
theorem xor_msb (a : Nat) (h0 : 0 < n) (ha : a < 2 ^ n) : a ^^^ 2 ^ (n - 1) = (2 ^ (n - 1) + a) % 2 ^ n := by
  obtain ⟨k, rfl⟩ : ∃ k, n = k + 1 := ⟨n - 1, by omega⟩
  apply Nat.eq_of_testBit_eq
  intro i
  rw [Nat.testBit_xor, Nat.testBit_mod_two_pow, Nat.add_sub_cancel, Nat.testBit_two_pow]
  rcases Nat.lt_trichotomy i k with hlt | rfl | hgt
  · rw [Nat.testBit_two_pow_add_gt hlt]
    simp [show k ≠ i by omega, show i < k + 1 by omega]
  · simp [Nat.testBit_two_pow_add_eq]
  · have hbit : a.testBit i = false := Nat.testBit_lt_two_pow (ha.trans_le (Nat.pow_le_pow_right (by omega) (by omega)))
    simp [hbit, show k ≠ i by omega, show ¬i < k + 1 by omega]

/-- Inverting the top bit of a pattern moves its unsigned value without the bias into two's complement (R113). -/
theorem toInt_xor_msb (x : BitVec n) (h0 : 0 < n) :
    (x ^^^ BitVec.ofNat n (2 ^ (n - 1))).toInt = (x.toNat : Int) - 2 ^ (n - 1) := by
  have hpow : 2 ^ n = 2 * 2 ^ (n - 1) := two_pow_eq_twice h0
  have hx := x.isLt
  have hmsb : (BitVec.ofNat n (2 ^ (n - 1))).toNat = 2 ^ (n - 1) := Nat.mod_eq_of_lt (by omega)
  have hpos : 0 < 2 ^ (n - 1) := by positivity
  have hcast : (2 : Int) ^ (n - 1) = ((2 ^ (n - 1) : Nat) : Int) := by push_cast; rfl
  rw [BitVec.toInt_eq_toNat_cond, BitVec.toNat_xor, hmsb, xor_msb _ h0 hx, hcast, hpow]
  generalize 2 ^ (n - 1) = half at *
  rcases Nat.lt_or_ge x.toNat half with hlt | hge
  · rw [Nat.mod_eq_of_lt (by omega)]
    split <;> omega
  · rw [Nat.mod_eq_sub_mod (by omega), Nat.mod_eq_of_lt (by omega)]
    split <;> omega

end

/-- Settles O8: the two cases of the signed-domain value, and its range (`signedVal_range`). -/
theorem signedDomain : Obligations.SignedDomain := by
  intro f w _
  obtain ⟨hlo, hhi⟩ := signedVal_range f w
  have hunsigned (hs : f.isSigned = false) :
      signedVal f w = ((w.setWidth f.width).toNat : Int) - 2 ^ (f.width - 1) := by
    simp [signedVal, sampleVal, hs]
  refine ⟨fun hs => by simp [signedVal, sampleVal, hs], fun hs => ⟨hunsigned hs, ?_⟩, hlo, Int.le_sub_one_of_lt hhi⟩
  rw [hunsigned hs, toInt_xor_msb _ (fmt_width_bounds f).1]

/-! ## Integer to integer -/

/-- What every `CVT` command does: `ST` and `RES` are written (R116). -/
theorem exec_cvtInstr_eq_next (sf df : Fmt) (s : State) :
    exec (cvtInstr sf df) s = .next { s with st := .ok, res := cvtResult sf df s.opa } := exec_cvtInstr sf df s

/-- The result of a conversion between integer formats (R117). -/
theorem cvtResult_int_int {sf df : Fmt} (hsf : sf.isInt = true) (hdf : df.isInt = true) (w : Word) :
    cvtResult sf df w = encSigned df (rescale sf.width df.width (signedVal sf w)) := by
  rw [cvtResult_of_isInt sf df w hsf, cvtWord_of_isInt sf df w hsf, if_neg (by rintro rfl; cases hdf),
    if_neg (by rintro rfl; cases hdf), cvtIntInt]

/-- Settles O9: the value is `rescale` of the signed-domain value, which is a product or a floor and stays in range. -/
theorem cvtIntegerToInteger : Obligations.CvtIntegerToInteger := by
  intro sf df s hsf hdf
  obtain ⟨hlo, hhi⟩ := signedVal_range sf s.opa
  obtain ⟨hlo', hhi'⟩ := rescale_range sf.width df.width _ (fmt_width_bounds sf).1 (fmt_width_bounds df).1 hlo hhi
  refine ⟨rescale sf.width df.width (signedVal sf s.opa), fun hle => if_pos hle, fun hlt => ?floor, hlo', hhi', ?_⟩
  case floor =>
    have hpos : (0 : Int) < 2 ^ (sf.width - df.width) := by positivity
    rw [rescale, if_neg (by omega)]
    exact ⟨Int.ediv_mul_le _ hpos.ne', Int.lt_ediv_add_one_mul_self _ hpos⟩
  rw [exec_cvtInstr_eq_next, cvtResult_int_int hsf hdf]
  rfl

/-! ## Integer to integer, as an operation on bit patterns -/

/-- What an integer sample's value holds beyond its signed-domain value: the bias of an unsigned format (R113). -/
def bias (signed : Bool) (n : Nat) : Int := if signed then 0 else 2 ^ (n - 1)

/-- A sample's value is its signed-domain value with the bias (R113). -/
theorem sampleVal_eq_signedVal_add_bias (f : Fmt) (w : Word) :
    sampleVal f w = signedVal f w + bias f.isSigned f.width := by
  cases hs : f.isSigned <;> simp [signedVal, bias, hs]

/-- Encoding a signed-domain value adds the bias (R117). -/
theorem encSigned_eq (f : Fmt) (t : Int) : encSigned f t = BitVec.ofInt 64 (t + bias f.isSigned f.width) := by
  cases hs : f.isSigned <;> simp [encSigned, encInt, bias, hs]

/-- The value of an integer sample is that of its bits, up to a multiple of `2 ^ n` (R112). -/
theorem sampleVal_emod (f : Fmt) (w : Word) : sampleVal f w % 2 ^ f.width = (w.toNat : Int) % 2 ^ f.width := by
  have hcast : (2 : Int) ^ f.width = ((2 ^ f.width : Nat) : Int) := by push_cast; rfl
  unfold sampleVal
  split
  · rw [BitVec.toInt_eq_toNat_bmod, hcast, Int.bmod_emod, BitVec.toNat_setWidth]
    push_cast
    exact Int.emod_emod_of_dvd _ dvd_rfl
  · rw [BitVec.toNat_setWidth]
    push_cast
    exact Int.emod_emod_of_dvd _ dvd_rfl

/-- The pattern of R126, bit `n - 1` inverted where the signedness differs, is the signed-domain value with the destination's
bias at the width of the source. -/
theorem pattern_eq_emod (f : Fmt) (signed : Bool) (w : Word) :
    ((if f.isSigned = signed then w.toNat % 2 ^ f.width else (w.toNat % 2 ^ f.width) ^^^ 2 ^ (f.width - 1) : Nat) : Int) =
      (signedVal f w + bias signed f.width) % 2 ^ f.width := by
  have h0 := (fmt_width_bounds f).1
  have hval := sampleVal_emod f w
  have hsum := sampleVal_eq_signedVal_add_bias f w
  have hpow : (2 : Int) ^ f.width = 2 * 2 ^ (f.width - 1) := two_pow_eq_twice h0
  split
  next heq => rw [← heq, ← hsum, hval]; push_cast; rfl
  next hne =>
    rw [xor_msb _ h0 (Nat.mod_lt _ (by positivity)), Nat.add_mod_mod]
    push_cast
    rw [Int.add_emod, ← hval, ← Int.add_emod, hsum]
    cases hs : f.isSigned <;> cases signed <;> simp only [hs, not_true_eq_false, reduceCtorEq, not_false_eq_true] at hne
    · rw [show 2 ^ (f.width - 1) + (signedVal f w + bias false f.width) = signedVal f w + bias true f.width + 2 ^ f.width by
        simp only [bias, hpow, Bool.false_eq_true, if_false, if_true]; ring]
      exact Int.add_emod_right ..
    · simp [bias, add_comm]

/-- Rescaling keeps the low bits that the width gives a place (R117, R126). -/
theorem rescale_emod (n m : Nat) (t : Int) : rescale n m t % 2 ^ m = rescale n m (t % 2 ^ n) := by
  unfold rescale
  split
  next hle =>
    have hpow : (2 : Int) ^ m = 2 ^ n * 2 ^ (m - n) := by rw [← pow_add, Nat.add_sub_cancel' hle]
    rw [hpow, mul_comm t, mul_comm (2 ^ n), Int.mul_emod_mul_of_pos _ _ (by positivity), mul_comm]
  next hgt =>
    have hpow : (2 : Int) ^ n = 2 ^ m * 2 ^ (n - m) := by rw [← pow_add, Nat.add_sub_cancel' (by omega)]
    have hpos : (0 : Int) < 2 ^ (n - m) := by positivity
    have hlo : 0 ≤ t % 2 ^ n / 2 ^ (n - m) := Int.ediv_nonneg (Int.emod_nonneg _ (by positivity)) hpos.le
    have hhi : t % 2 ^ n / 2 ^ (n - m) < 2 ^ m :=
      Int.ediv_lt_of_lt_mul hpos (by rw [← hpow]; exact Int.emod_lt_of_pos _ (by positivity))
    have hsplit : t / 2 ^ (n - m) = t % 2 ^ n / 2 ^ (n - m) + 2 ^ m * (t / 2 ^ n) := by
      rw [← Int.add_mul_ediv_right _ _ hpos.ne']
      congr 1
      calc t = t % 2 ^ n + 2 ^ n * (t / 2 ^ n) := (Int.emod_add_mul_ediv t _).symm
        _ = _ := by rw [hpow]; ring
    rw [hsplit, Int.add_mul_emod_self_left, Int.emod_eq_of_lt hlo hhi]

/-- Rescaling takes the bias of one width to that of the other (R117). -/
theorem rescale_add_bias (n m : Nat) (signed : Bool) (t : Int) (hn : 0 < n) (hm : 0 < m) :
    rescale n m t + bias signed m = rescale n m (t + bias signed n) := by
  cases signed
  case true => simp [bias]
  unfold rescale
  simp only [bias, Bool.false_eq_true, if_false]
  split
  next hle => rw [add_mul, ← pow_add, show n - 1 + (m - n) = m - 1 by omega]
  next hgt =>
    have hpow : (2 : Int) ^ (n - 1) = 2 ^ (m - 1) * 2 ^ (n - m) := by rw [← pow_add]; congr 1; omega
    rw [hpow, Int.add_mul_ediv_right _ _ (by positivity)]

/-- The low bits of a number's word. -/
theorem toNat_ofInt_emod {n : Nat} (h64 : n ≤ 64) (t : Int) : ((BitVec.ofInt 64 t).toNat : Int) % 2 ^ n = t % 2 ^ n := by
  have hlow := congrArg (fun x => (x.toNat : Int)) (setWidth_ofInt n t h64)
  simp only [BitVec.toNat_setWidth] at hlow
  push_cast at hlow
  rw [hlow, BitVec.toNat_ofInt, Int.toNat_of_nonneg (Int.emod_nonneg _ (by positivity)), Nat.cast_pow, Nat.cast_ofNat]

/-- Settles O10: on the value with the destination's bias, the conversion is the shift of the pattern. -/
theorem cvtIntegerBits : Obligations.CvtIntegerBits := by
  intro sf df s hsf hdf
  refine ⟨_, exec_cvtInstr_eq_next sf df s, canonical_cvtResult sf df s.opa, fun p hp => ?_⟩
  obtain ⟨hn, -⟩ := fmt_width_bounds sf
  obtain ⟨hm, hm64⟩ := fmt_width_bounds df
  have hbits : ((cvtResult sf df s.opa).toNat : Int) % 2 ^ df.width = rescale sf.width df.width p := by
    rw [cvtResult_int_int hsf hdf, encSigned_eq, toNat_ofInt_emod hm64, rescale_add_bias _ _ _ _ hn hm, rescale_emod,
      ← pattern_eq_emod, ← hp]
  unfold rescale at hbits
  split at hbits
  next hle => rw [if_pos hle]; exact_mod_cast hbits
  next hgt => rw [if_neg hgt]; exact_mod_cast hbits

/-! ## To the same format -/

/-- The canonical word holds the sample's bits (R115). -/
theorem setWidth_canonical (f : Fmt) (w : Word) : (canonical f w).setWidth f.width = w.setWidth f.width := by
  obtain ⟨-, h64⟩ := fmt_width_bounds f
  rw [canonical_eq]
  split
  · exact setWidth_signExtend_self _ h64
  · rw [BitVec.setWidth_setWidth_of_le _ h64, BitVec.setWidth_eq]

/-- Encoding an integer sample's own signed-domain value gives its canonical word (R115). -/
theorem encSigned_signedVal (f : Fmt) (w : Word) : encSigned f (signedVal f w) = canonical f w := by
  rw [encSigned_eq, ← sampleVal_eq_signedVal_add_bias, canonical_eq, sampleVal]
  split
  · rfl
  · exact (BitVec.ofInt_natCast ..).trans (BitVec.ofNat_toNat ..)

/-- Rescaling to a width that is not smaller, and back, is the identity (R117). -/
theorem rescale_rescale {n m : Nat} (t : Int) (h : n ≤ m) : rescale m n (rescale n m t) = t := by
  unfold rescale
  rw [if_pos h]
  split
  next hle => simp [Nat.le_antisymm h hle]
  next => exact Int.mul_ediv_cancel _ (by positivity)

/-- A conversion to the same format gives the canonical word (R121). -/
theorem cvtResult_self (f : Fmt) (w : Word) (h : f.isInt = true ∨ inContract f w = true) :
    cvtResult f f w = canonical f w := by
  rcases hf : f.isInt with _ | _
  · rw [cvtResult_of_inContract f f w (h.resolve_left (by simp [hf]))]
    cases f with
    | f32 | f64 => rfl
    | _ => cases hf
  · rw [cvtResult_int_int hf hf, rescale, if_pos le_rfl, Nat.sub_self, pow_zero, mul_one, encSigned_signedVal]

/-- Settles O15. -/
theorem cvtSameFormat : Obligations.CvtSameFormat := by
  intro f s h
  refine ⟨?_, fun _ => by simp only [sampleVal, setWidth_canonical]⟩
  rw [exec_cvtInstr_eq_next, cvtResult_self f s.opa h]

/-! ## Out of contract -/

/-- Settles O16: the word is `cvtResult`, which reads the bits within the width only (`cvtResult_congr`). -/
theorem cvtOutOfContract : Obligations.CvtOutOfContract := by
  intro sf df w _ _
  refine ⟨cvtResult sf df w, canonical_cvtResult sf df w, fun s h => ?_⟩
  rw [exec_cvtInstr_eq_next, cvtResult_congr sf df s.opa w (setWidth_eq_of_mod_eq h)]

/-! ## The words of the spec's worked examples -/

/-- Settles O3: each word is the encoding of its command, which decodes to the command (`decodeInvertsEncode`). -/
theorem specWordsDecode : Obligations.SpecWordsDecode :=
  ⟨decodeInvertsEncode .cvtI8F32 rfl, decodeInvertsEncode (.smpSin .f32 .d500) rfl,
    decodeInvertsEncode (.oscCfg .saw .d500 0#8) rfl, decodeInvertsEncode (.tblBuild .saw .d500 0#8) rfl,
    decodeInvertsEncode (.lutBind 1#8) rfl, decodeInvertsEncode (.vsoSetSync true 0#8) rfl,
    decodeInvertsEncode (.envTick true 0#8) rfl⟩

end Sys2Proof.Machine
end

section
/-! The conversions to and from floats (40_convert.md R118 to R120, R123, R127). Such a conversion is one rounding of a magnitude:
what the two float formats share is said for any `p` significand bits (`rnMag`, `magUnits`), and each format adds its sign bit. -/

namespace Sys2Proof.Machine

/-! ## Rounding a magnitude, for any float format -/

section
variable {p : Nat}

/-- Every product of a `p`-bit significand and a power of two is the value of a pattern. -/
theorem exists_magUnits_eq (hp : 0 < p) (k e : Nat) (hk : k < 2 ^ p) : ∃ m, magUnits p m = k * 2 ^ e := by
  have hpow : 2 ^ p = 2 * 2 ^ (p - 1) := two_pow_eq_twice hp
  induction e generalizing k with
  | zero => exact ⟨0 * 2 ^ (p - 1) + k, magUnits_binade p 0 k hp hk.le (absurd · (lt_irrefl 0))⟩
  | succ e ih =>
    rcases Nat.lt_or_ge k (2 ^ (p - 1)) with hlt | hge
    · obtain ⟨m, hm⟩ := ih (2 * k) (by omega)
      exact ⟨m, by rw [hm]; ring⟩
    · exact ⟨_, magUnits_binade p (e + 1) k hp hk.le fun _ => hge⟩

/-- The value of every pattern is the product of a `p`-bit significand and a power of two. -/
theorem magUnits_eq_mul_two_pow (hp : 0 < p) (m : Nat) : ∃ k e, magUnits p m = k * 2 ^ e ∧ k < 2 ^ p := by
  have hpow : 2 ^ p = 2 * 2 ^ (p - 1) := two_pow_eq_twice hp
  have hpos : 0 < 2 ^ (p - 1) := by positivity
  unfold magUnits
  split
  next h0 =>
    have hm : m < 2 ^ (p - 1) := (Nat.div_eq_zero_iff.1 h0).resolve_left hpos.ne'
    exact ⟨m, 0, by simp, by omega⟩
  next =>
    have := Nat.mod_lt m hpos
    exact ⟨_, _, rfl, by omega⟩

/-- A real at most a pattern's value rounds to at most that pattern. -/
theorem rnMag_le_of_le {inf n d m : Nat} (hp : 0 < p) (hd : 0 < d) (h : n ≤ magUnits p m * d) : rnMag p inf n d ≤ m := by
  have hmono := rnRaw_mono p _ _ d hp hd h
  rw [rnRaw_units p m d hd] at hmono
  exact (Nat.min_le_left ..).trans hmono

/-- A real at most an even pattern's value rounds to it exactly from halfway to the pattern before on. -/
theorem rnMag_eq_iff {inf n d j : Nat} (hp : 1 < p) (hd : 0 < d) (hj : (j + 1) % 2 = 0) (hinf : j + 1 ≤ inf)
    (h : n ≤ magUnits p (j + 1) * d) :
    rnMag p inf n d = j + 1 ↔ (magUnits p j + magUnits p (j + 1)) * d ≤ 2 * n := by
  have hle := rnMag_le_of_le (inf := inf) (by omega) hd h
  rw [← le_rnRaw_iff p n d j hp hd hj]
  rw [rnMag_eq] at hle ⊢
  omega

/-- A rounding of a quotient by a power of two is exact exactly where the numerator, without trailing zero bits, fits the
significand. -/
theorem rnMag_exact_iff {inf n j c : Nat} (hp : 0 < p) (hjc : j ≤ c) (h : n * 2 ^ c ≤ magUnits p inf * 2 ^ j) :
    magUnits p (rnMag p inf (n * 2 ^ c) (2 ^ j)) * 2 ^ j = n * 2 ^ c ↔ ∃ k e, n = k * 2 ^ e ∧ k < 2 ^ p := by
  have hpos : 0 < 2 ^ j := by positivity
  constructor
  · intro hexact
    obtain ⟨k, e, hval, hk⟩ := magUnits_eq_mul_two_pow hp (rnMag p inf (n * 2 ^ c) (2 ^ j))
    rw [hval, mul_assoc, ← pow_add] at hexact
    rcases Nat.le_total c (e + j) with hle | hle
    · obtain ⟨i, hi⟩ := Nat.exists_eq_add_of_le hle
      have hn : k * 2 ^ i * 2 ^ c = n * 2 ^ c := by rw [← hexact, hi]; ring
      exact ⟨k, i, (Nat.eq_of_mul_eq_mul_right (by positivity) hn).symm, hk⟩
    · obtain ⟨i, hi⟩ := Nat.exists_eq_add_of_le hle
      have hn : k = n * 2 ^ i :=
        Nat.eq_of_mul_eq_mul_right (by positivity : 0 < 2 ^ (e + j)) (by rw [hexact, hi]; ring)
      exact ⟨n, 0, by simp, (Nat.le_mul_of_pos_right n (by positivity)).trans_lt (hn ▸ hk)⟩
  · rintro ⟨k, e, rfl, hk⟩
    obtain ⟨i, rfl⟩ := Nat.exists_eq_add_of_le hjc
    obtain ⟨m, hm⟩ := exists_magUnits_eq hp k (e + i) hk
    have hval : k * 2 ^ e * 2 ^ (j + i) = magUnits p m * 2 ^ j := by rw [hm]; ring
    rw [hval] at h ⊢
    rw [rnMag_units p inf m _ hpos ((magUnits_le_iff p m inf hp).1 (Nat.le_of_mul_le_mul_right h hpos))]

end

/-! ## Signs and the range of the float contract -/

/-- A number is its sign and its magnitude. -/
theorem signedNum_natAbs (t : Int) : signedNum (decide (t < 0)) t.natAbs = t := by
  unfold signedNum
  split
  next h => have := of_decide_eq_true h; omega
  next h => have := of_decide_eq_false (Bool.eq_false_iff.2 h); omega

/-- A sign goes through a change of unit. -/
theorem signedNum_mul_two_pow (neg : Bool) (n c : Nat) : signedNum neg n * 2 ^ c = signedNum neg (n * 2 ^ c) := by
  cases neg <;> simp [signedNum]

/-- With the same sign, values are as equal as their magnitudes, each in its units. -/
theorem signedNum_mul_eq_iff (neg : Bool) (a b i j : Nat) :
    signedNum neg a * 2 ^ i = signedNum neg b * 2 ^ j ↔ a * 2 ^ i = b * 2 ^ j := by
  rw [signedNum_mul_two_pow, signedNum_mul_two_pow]
  cases neg <;> simp only [signedNum, Bool.false_eq_true, if_true, if_false, neg_inj, Nat.cast_inj]

/-- A value of a sign and a magnitude `u` in units of `1 / d` is in [-1, 1): the float contract (R114). -/
def InRange (neg : Bool) (u d : Nat) : Prop := u ≤ d ∧ (neg = false → u < d)

/-- The range does not depend on the unit that a value is counted in. -/
theorem InRange.of_mul_eq {neg : Bool} {u d u' d' : Nat} (h : InRange neg u d) (heq : u' * d = u * d') (hd : 0 < d)
    (hd' : 0 < d') : InRange neg u' d' := by
  obtain ⟨hle, hlt⟩ := h
  refine ⟨Nat.le_of_mul_le_mul_right (c := d) ?_ hd, fun hneg => Nat.lt_of_mul_lt_mul_right (a := d) ?_⟩
  · rw [heq, Nat.mul_comm d']
    exact Nat.mul_le_mul_right d' hle
  · rw [heq, Nat.mul_comm d']
    exact Nat.mul_lt_mul_of_pos_right (hlt hneg) hd'

/-- The truncated product of a value in range with `2 ^ k` is in the signed range of `k + 1` bits (R119). -/
theorem InRange.truncated {neg : Bool} {u d : Nat} (h : InRange neg u d) (k : Nat) :
    -2 ^ k ≤ signedNat neg (u * 2 ^ k / d) ∧ signedNat neg (u * 2 ^ k / d) < 2 ^ k := by
  obtain ⟨hle, hlt⟩ := h
  have hpos : 0 < 2 ^ k := by positivity
  have hqle : u * 2 ^ k / d ≤ 2 ^ k := Nat.div_le_of_le_mul (Nat.mul_le_mul_right _ hle)
  have hqlt (hneg : neg = false) : u * 2 ^ k / d < 2 ^ k :=
    Nat.div_lt_of_lt_mul (Nat.mul_lt_mul_of_pos_right (hlt hneg) hpos)
  generalize u * 2 ^ k / d = q at *
  zify at hpos hqle hqlt
  cases neg <;> simp only [signedNat, Bool.false_eq_true, if_true, if_false]
  · have := hqlt rfl
    omega
  · omega

/-- The truncation toward zero of a quotient is that of the magnitudes, with the sign (R119). -/
theorem signedNat_div (neg : Bool) (u k c : Nat) :
    signedNat neg (u * 2 ^ k / 2 ^ c) = Int.tdiv (signedNum neg u * 2 ^ k) (2 ^ c) := by
  have hdiv : ((u * 2 ^ k / 2 ^ c : Nat) : Int) = Int.tdiv (u * 2 ^ k) (2 ^ c) := by rw [Int.ofNat_tdiv]; push_cast; rfl
  cases neg <;> simp only [signedNat, signedNum, hdiv, Bool.false_eq_true, if_true, if_false, neg_mul, Int.neg_tdiv]

/-- The signed-domain value of a sample over `2 ^ (n - 1)` is in [-1, 1) (R113). -/
theorem inRange_signedVal (f : Fmt) (w : Word) :
    InRange (decide (signedVal f w < 0)) (signedVal f w).natAbs (2 ^ (f.width - 1)) := by
  obtain ⟨hlo, hhi⟩ := signedVal_range f w
  have hcast : (2 : Int) ^ (f.width - 1) = ((2 ^ (f.width - 1) : Nat) : Int) := by push_cast; rfl
  rw [hcast] at hlo hhi
  generalize 2 ^ (f.width - 1) = half at *
  refine ⟨by omega, fun h => ?_⟩
  have := of_decide_eq_false h
  omega

/-! ## The patterns of binary64 -/

/-- The magnitude pattern of a packed binary64. -/
theorem mag64_pack64 (neg : Bool) (m : Nat) (h : m < 2 ^ 63) : mag64 (pack64 neg m) = m := by
  unfold mag64 pack64
  cases neg <;> simp <;> omega

/-- The sign of a packed binary64. -/
theorem sign64_pack64 (neg : Bool) (m : Nat) (h : m < 2 ^ 63) : sign64 (pack64 neg m) = neg := by
  unfold sign64 pack64
  rw [BitVec.msb_eq_decide]
  cases neg <;> simp <;> omega

/-- A binary64 is its sign and its magnitude pattern. -/
theorem pack64_sign64_mag64 (x : F64) : pack64 (sign64 x) (mag64 x) = x := by
  have hx := x.isLt
  apply BitVec.eq_of_toNat_eq
  unfold pack64 sign64 mag64
  rw [BitVec.msb_eq_decide]
  by_cases h : 2 ^ (64 - 1) ≤ x.toNat
  · simp only [h, decide_true, if_true, BitVec.toNat_ofNat]
    omega
  · simp only [h, decide_false, Bool.false_eq_true, if_false, BitVec.toNat_ofNat]
    omega

/-- A rounded magnitude is a pattern of binary64. -/
theorem rnMag64_lt (n d : Nat) : rnMag 53 inf64 n d < 2 ^ 63 := lt_of_le_of_lt (rnMag_le 53 inf64 n d) (by decide)

/-- The magnitude pattern of a rounding to binary64. -/
theorem mag64_rn64 (neg : Bool) (n d : Nat) : mag64 (rn64 neg n d) = rnMag 53 inf64 (n * 2 ^ 1074) d :=
  mag64_pack64 _ _ (rnMag64_lt _ _)

/-- The sign of a rounding to binary64. -/
theorem sign64_rn64 (neg : Bool) (n d : Nat) : sign64 (rn64 neg n d) = neg := sign64_pack64 _ _ (rnMag64_lt _ _)

/-- A NaN in binary64 has a pattern above infinity's. -/
theorem isNaN64_iff (x : F64) : isNaN64 x = true ↔ inf64 < mag64 x := by simp [isNaN64]

/-- The value of a binary64 is its sign and the value of its pattern. -/
theorem int64_eq_signedNum (x : F64) : int64 x = signedNum (sign64 x) (magUnits 53 (mag64 x)) := rfl

/-- Binary64 overflows exactly from the threshold of R9 on. -/
theorem inf64_le_rnRaw_iff (n d : Nat) (hd : 0 < d) : inf64 ≤ rnRaw 53 n d ↔ (2 ^ 54 - 1) * 2 ^ 2044 * d ≤ n := by
  have hthr : magUnits 53 (inf64 - 1) + magUnits 53 (inf64 - 1 + 1) = 2 * ((2 ^ 54 - 1) * 2 ^ 2044) := by decide +kernel
  have h := le_rnRaw_iff 53 n d (inf64 - 1) (by omega) hd (by decide)
  rw [hthr, Nat.mul_assoc 2] at h
  generalize (2 ^ 54 - 1) * 2 ^ 2044 = threshold at h ⊢
  rw [show inf64 = inf64 - 1 + 1 by decide, h]
  omega

/-- `rn64` is the rounding of R9. -/
theorem isRN64_rn64 (neg : Bool) (n d : Nat) (hd : 0 < d) : IsRN64 (signedNum neg n) d (rn64 neg n d) := by
  have hov := inf64_le_rnRaw_iff (n * 2 ^ 1074) d hd
  have hmag : mag64 (rn64 neg n d) = min (rnRaw 53 (n * 2 ^ 1074) d) inf64 := by rw [mag64_rn64, rnMag_eq]
  unfold IsRN64
  rw [natAbs_signedNum]
  have hpos : 0 < (2 ^ 54 - 1) * 2 ^ 2044 * d := by positivity
  -- the threshold is to be compared as it stands and not evaluated
  generalize (2 ^ 54 - 1) * 2 ^ 2044 * d = threshold at hov hpos ⊢
  split
  next hthr =>
    have hn : 0 < n := Nat.pos_of_mul_pos_right (hpos.trans_le hthr)
    refine ⟨?_, by simp [sign64_rn64, signedNum_neg_iff neg n hn]⟩
    rw [isInf64, hmag, Nat.min_eq_right (hov.2 hthr)]
    exact decide_eq_true rfl
  next hthr =>
    have hfin : rnRaw 53 (n * 2 ^ 1074) d < inf64 := Nat.lt_of_not_le fun h => hthr (hov.1 h)
    rw [Nat.min_eq_left hfin.le] at hmag
    have hval : int64 (rn64 neg n d) = signedNum neg (magUnits 53 (rnRaw 53 (n * 2 ^ 1074) d)) := by
      rw [int64_eq_signedNum, sign64_rn64, hmag]
    have hscale := signedNum_mul_two_pow neg n 1074
    refine ⟨by rw [isFin64, hmag]; exact decide_eq_true hfin, fun z _ hne => ?_⟩
    rw [hval, int64_eq_signedNum z] at hne
    rw [hval, int64_eq_signedNum z, hscale, hmag]
    exact rnRaw_nearest_signed 53 _ d (mag64 z) neg (sign64 z) (by omega) hd hne

/-- What is `rn64` of a real is the rounding of that real. -/
theorem isRN64_of_eq_rn64 {neg : Bool} {n d : Nat} {k : Int} {y : F64} (hy : y = rn64 neg n d)
    (hk : signedNum neg n = k) (hd : 0 < d) : IsRN64 k d y := by
  subst hy hk
  -- `with_reducible`: the threshold is to be compared as it stands and not evaluated
  with_reducible exact isRN64_rn64 neg n d hd

/-! ## The float contract and its bounds as magnitudes -/

/-- The value of the pattern of 1.0 in binary32. -/
theorem magUnits_one32 : magUnits 24 0x3F800000 = 2 ^ 149 := by decide

/-- The value of the pattern of 1.0 in binary64. -/
theorem magUnits_one64 : magUnits 53 0x3FF0000000000000 = 2 ^ 1074 := by decide +kernel

/-- The float contract of R114 for binary32. -/
theorem inContract_f32_iff (w : Word) :
    inContract .f32 w = true ↔ InRange (sign32 (f32Of w)) (units32 (f32Of w)) (2 ^ 149) := by
  have hones : sign32 one32 = false ∧ mag32 one32 = 0x3F800000 ∧ sign32 negOne32 = true ∧ mag32 negOne32 = 0x3F800000 ∧
      isNaN32 one32 = false ∧ isNaN32 negOne32 = false := by decide
  obtain ⟨hspos, hmpos, hsneg, hmneg, hnpos, hnneg⟩ := hones
  unfold InRange units32
  rw [← magUnits_one32, magUnits_le_iff 24 _ _ (by decide), magUnits_lt_iff 24 _ _ (by decide)]
  simp only [inContract, le32, lt32, key32, isNaN32_iff, hspos, hsneg, hmpos, hmneg, hnpos, hnneg, Bool.and_eq_true,
    Bool.not_eq_true', Bool.eq_false_iff, ne_eq, inf32, decide_eq_true_eq, Bool.false_eq_true, if_true, if_false]
  cases sign32 (f32Of w) <;> simp <;> omega

/-- The float contract of R114 for binary64. -/
theorem inContract_f64_iff (w : Word) : inContract .f64 w = true ↔ InRange (sign64 w) (units64 w) (2 ^ 1074) := by
  have hones : sign64 0x3FF0000000000000#64 = false ∧ mag64 0x3FF0000000000000#64 = 0x3FF0000000000000 ∧
      sign64 0xBFF0000000000000#64 = true ∧ mag64 0xBFF0000000000000#64 = 0x3FF0000000000000 ∧
      isNaN64 0x3FF0000000000000#64 = false ∧ isNaN64 0xBFF0000000000000#64 = false := by decide
  obtain ⟨hspos, hmpos, hsneg, hmneg, hnpos, hnneg⟩ := hones
  unfold InRange units64
  rw [← magUnits_one64, magUnits_le_iff 53 _ _ (by decide), magUnits_lt_iff 53 _ _ (by decide)]
  simp only [inContract, le64, lt64, key64, isNaN64_iff, hspos, hsneg, hmpos, hmneg, hnpos, hnneg, Bool.and_eq_true,
    Bool.not_eq_true', Bool.eq_false_iff, ne_eq, inf64, decide_eq_true_eq, Bool.false_eq_true, if_true, if_false]
  cases sign64 w <;> simp <;> omega

/-- A magnitude at most 1.0 is within [-1.0, 1.0] in binary32. -/
theorem le32_of_mag32_le {y : F32} (h : mag32 y ≤ 0x3F800000) : le32 negOne32 y = true ∧ le32 y one32 = true := by
  have hones : key32 one32 = 0x3F800000 ∧ key32 negOne32 = -0x3F800000 := by decide
  have hnan : isNaN32 y = false := Bool.eq_false_iff.2 fun hn => by rw [isNaN32_iff, inf32] at hn; omega
  have hkey : -0x3F800000 ≤ key32 y ∧ key32 y ≤ 0x3F800000 := by unfold key32; split <;> omega
  exact ⟨le32_of_key32 _ _ (by decide) hnan (hones.2 ▸ hkey.1), le32_of_key32 _ _ hnan (by decide) (hones.1 ▸ hkey.2)⟩

/-- A magnitude at most 1.0 is within [-1.0, 1.0] in binary64. -/
theorem le64_of_mag64_le {y : F64} (h : mag64 y ≤ 0x3FF0000000000000) :
    le64 0xBFF0000000000000#64 y = true ∧ le64 y 0x3FF0000000000000#64 = true := by
  have hones : key64 0x3FF0000000000000#64 = 0x3FF0000000000000 ∧ key64 0xBFF0000000000000#64 = -0x3FF0000000000000 ∧
      isNaN64 0x3FF0000000000000#64 = false ∧ isNaN64 0xBFF0000000000000#64 = false := by decide
  obtain ⟨hpos, hneg, hnpos, hnneg⟩ := hones
  have hnan : isNaN64 y = false := Bool.eq_false_iff.2 fun hn => by rw [isNaN64_iff, inf64] at hn; omega
  have hkey : -0x3FF0000000000000 ≤ key64 y ∧ key64 y ≤ 0x3FF0000000000000 := by unfold key64; split <;> omega
  simpa [le64, hpos, hneg, hnpos, hnneg, hnan] using hkey

/-! ## Float to integer -/

/-- The word of a conversion from binary32 to an integer format (R119). -/
theorem cvtWord_f32_int {df : Fmt} (hdf : df.isInt = true) (w : Word) : cvtWord .f32 df w = cvtF32Int df (f32Of w) := by
  cases df with
  | f32 | f64 => cases hdf
  | _ => rfl

/-- The word of a conversion from binary64 to an integer format (R119). -/
theorem cvtWord_f64_int {df : Fmt} (hdf : df.isInt = true) (w : Word) : cvtWord .f64 df w = cvtF64Int df w := by
  cases df with
  | f32 | f64 => cases hdf
  | _ => rfl

/-- Settles O13: the value is the truncated magnitude with the sign, in range by the float contract (`InRange.truncated`). -/
theorem cvtFloatToInteger : Obligations.CvtFloatToInteger := by
  intro df s hdf
  refine ⟨fun hin => ?f32, fun hin => ?f64⟩
  case f32 =>
    obtain ⟨hlo, hhi⟩ := ((inContract_f32_iff s.opa).1 hin).truncated (df.width - 1)
    refine ⟨_, signedNat_div .., hlo, hhi, ?_⟩
    rw [exec_cvtInstr_eq_next, cvtResult_of_inContract _ _ _ hin, cvtWord_f32_int hdf]
    rfl
  case f64 =>
    obtain ⟨hlo, hhi⟩ := ((inContract_f64_iff s.opa).1 hin).truncated (df.width - 1)
    refine ⟨_, signedNat_div .., hlo, hhi, ?_⟩
    rw [exec_cvtInstr_eq_next, cvtResult_of_inContract _ _ _ hin, cvtWord_f64_int hdf]
    rfl

/-! ## Float to float -/

/-- Widening of a value in contract is exact and keeps the sign (R120): 24 significand bits fit in 53. -/
theorem cvtF32F64_exact (x : F32) (h : units32 x ≤ 2 ^ 149) :
    sign64 (cvtF32F64 x) = sign32 x ∧ units64 (cvtF32F64 x) * 2 ^ 149 = units32 x * 2 ^ 1074 := by
  refine ⟨sign64_rn64 .., ?_⟩
  have hbound : units32 x * 2 ^ 1074 ≤ magUnits 53 inf64 * 2 ^ 149 :=
    calc _ ≤ 2 ^ 149 * magUnits 53 0x3FF0000000000000 := by rw [magUnits_one64]; exact Nat.mul_le_mul_right _ h
      _ ≤ 2 ^ 149 * magUnits 53 inf64 := Nat.mul_le_mul_left _ ((magUnits_le_iff 53 _ _ (by decide)).2 (by decide))
      _ = _ := Nat.mul_comm ..
  obtain ⟨k, e, hval, hk⟩ := magUnits_eq_mul_two_pow (p := 24) (by decide) (mag32 x)
  have hexact := (rnMag_exact_iff (p := 53) (by decide) (by decide) hbound).2 ⟨k, e, hval, hk.trans (by decide)⟩
  rwa [← mag64_rn64 (sign32 x)] at hexact

/-- A binary64 in contract is finite. -/
theorem isFin64_of_units64_le {y : F64} (h : units64 y ≤ 2 ^ 1074) : isFin64 y = true := by
  rw [← magUnits_one64, units64, magUnits_le_iff 53 _ _ (by decide)] at h
  exact decide_eq_true (h.trans_lt (by decide))

/-- Narrowing is the rounding of R9 (R120). -/
theorem isRN32_cvtF64F32 (x : F64) : IsRN32 (int64 x) (2 ^ 1074) (cvtF64F32 x) := by
  rw [show int64 x = signedNum (sign64 x) (units64 x) from rfl, cvtF64F32]
  -- `with_reducible`: `2 ^ 1074` is to be compared as it stands and not evaluated
  with_reducible exact isRN32_rn32 (sign64 x) (units64 x) (2 ^ 1074) (by positivity)

/-- Settles O14: widening is exact (`cvtF32F64_exact`), narrowing is a rounding. -/
theorem cvtFloatToFloat : Obligations.CvtFloatToFloat := by
  intro s
  refine ⟨fun hin => ?widen, fun hin => ⟨cvtF64F32 s.opa, ?narrow, sign32_rn32 .., ?_⟩⟩
  case widen =>
    have hrange := (inContract_f32_iff s.opa).1 hin
    obtain ⟨hsign, hval⟩ := cvtF32F64_exact (f32Of s.opa) hrange.1
    have hrange' := hrange.of_mul_eq hval (by positivity) (by positivity)
    refine ⟨cvtF32F64 (f32Of s.opa), isFin64_of_units64_le hrange'.1, ?_, hsign, ?_⟩
    · rw [int64_eq_signedNum, hsign]
      exact (signedNum_mul_eq_iff ..).2 hval
    · exact (exec_cvtInstr_eq_next .f32 .f64 s).trans (by rw [cvtResult_of_inContract _ _ _ hin]; rfl)
  case narrow => with_reducible exact isRN32_cvtF64F32 s.opa
  exact (exec_cvtInstr_eq_next .f64 .f32 s).trans (by rw [cvtResult_of_inContract _ _ _ hin]; rfl)

/-! ## Integer to float -/

/-- A number is a `p`-bit significand times a power of two exactly if its magnitude is. -/
theorem exists_significand_iff (t : Int) (p : Nat) :
    (∃ k e, t.natAbs = k * 2 ^ e ∧ k < 2 ^ p) ↔ ∃ (k : Int) (e : Nat), t = k * 2 ^ e ∧ k.natAbs < 2 ^ p := by
  constructor
  · rintro ⟨k, e, hval, hk⟩
    refine ⟨signedNum (decide (t < 0)) k, e, ?_, by rwa [natAbs_signedNum]⟩
    rw [signedNum_mul_two_pow, ← hval, signedNum_natAbs]
  · rintro ⟨k, e, hval, hk⟩
    refine ⟨k.natAbs, e, ?_, hk⟩
    rw [hval, Int.natAbs_mul, Int.natAbs_pow]
    rfl

/-- A quotient by a power of two rounds to 1.0 exactly from halfway to the pattern before 1.0 on. -/
theorem rnMag_eq_one_iff {p inf n i j c t : Nat} (hp : 1 < p) (hj : (j + 1) % 2 = 0) (hinf : j + 1 ≤ inf)
    (ht : c + p = t) (hone : magUnits p (j + 1) = 2 ^ t) (hsum : magUnits p j + magUnits p (j + 1) = (2 ^ (p + 1) - 1) * 2 ^ c)
    (h : n ≤ 2 ^ i) :
    rnMag p inf (n * 2 ^ t) (2 ^ i) = j + 1 ↔ (2 ^ (p + 1) - 1) * 2 ^ i ≤ 2 ^ (p + 1) * n := by
  subst ht
  have hle : n * 2 ^ (c + p) ≤ magUnits p (j + 1) * 2 ^ i := by
    rw [hone, Nat.mul_comm]
    exact Nat.mul_le_mul_left _ h
  have hleft : (2 ^ (p + 1) - 1) * 2 ^ c * 2 ^ i = (2 ^ (p + 1) - 1) * 2 ^ i * 2 ^ c := Nat.mul_right_comm ..
  have hright : 2 * (n * 2 ^ (c + p)) = 2 ^ (p + 1) * n * 2 ^ c := by ring
  rw [rnMag_eq_iff hp (by positivity) hj hinf hle, hsum, hleft, hright, Nat.mul_le_mul_right_iff (by positivity)]

/-- The result of a conversion from an integer format to binary32 (R118). -/
theorem cvtResult_int_f32 {f : Fmt} (hf : f.isInt = true) (w : Word) : cvtResult f .f32 w = encF32 (cvtIntF32 f w) := by
  rw [cvtResult_of_isInt _ _ _ hf, cvtWord_of_isInt _ _ _ hf, if_pos rfl]

/-- The result of a conversion from an integer format to binary64 (R118). -/
theorem cvtResult_int_f64 {f : Fmt} (hf : f.isInt = true) (w : Word) : cvtResult f .f64 w = cvtIntF64 f w := by
  rw [cvtResult_of_isInt _ _ _ hf, cvtWord_of_isInt _ _ _ hf, if_neg (by decide), if_pos rfl]

section
variable (f : Fmt) (w : Word)

/-- Conversion to binary32 keeps the sign (R118). -/
theorem sign32_cvtIntF32 : sign32 (cvtIntF32 f w) = decide (signedVal f w < 0) := sign32_rn32 ..

/-- Conversion to binary32 rounds the magnitude (R118). -/
theorem mag32_cvtIntF32 :
    mag32 (cvtIntF32 f w) = rnMag 24 inf32 ((signedVal f w).natAbs * 2 ^ 149) (2 ^ (f.width - 1)) := mag32_rn32 ..

/-- Conversion to binary64 keeps the sign (R118). -/
theorem sign64_cvtIntF64 : sign64 (cvtIntF64 f w) = decide (signedVal f w < 0) := sign64_rn64 ..

/-- Conversion to binary64 rounds the magnitude (R118). -/
theorem mag64_cvtIntF64 :
    mag64 (cvtIntF64 f w) = rnMag 53 inf64 ((signedVal f w).natAbs * 2 ^ 1074) (2 ^ (f.width - 1)) := mag64_rn64 ..

/-- A zero is converted to `+0.0` in binary32 (R118). -/
theorem cvtIntF32_of_zero (h0 : signedVal f w = 0) : cvtIntF32 f w = 0#32 := by
  rw [← pack32_sign32_mag32 (cvtIntF32 f w), sign32_cvtIntF32, mag32_cvtIntF32, h0, Int.natAbs_zero, Nat.zero_mul,
    Nat.le_zero.1 (rnMag_le_of_le (m := 0) (by decide) (by positivity) (Nat.zero_le _))]
  rfl

/-- A zero is converted to `+0.0` in binary64 (R118). -/
theorem cvtIntF64_of_zero (h0 : signedVal f w = 0) : cvtIntF64 f w = 0#64 := by
  rw [← pack64_sign64_mag64 (cvtIntF64 f w), sign64_cvtIntF64, mag64_cvtIntF64, h0, Int.natAbs_zero, Nat.zero_mul,
    Nat.le_zero.1 (rnMag_le_of_le (m := 0) (by decide) (by positivity) (Nat.zero_le _))]
  rfl

/-- The real that is converted is at most 1.0 in magnitude, in binary32's units. -/
theorem natAbs_signedVal_le_one32 :
    (signedVal f w).natAbs * 2 ^ 149 ≤ magUnits 24 0x3F800000 * 2 ^ (f.width - 1) := by
  rw [magUnits_one32, Nat.mul_comm]
  exact Nat.mul_le_mul_left _ (inRange_signedVal f w).1

/-- The real that is converted is at most 1.0 in magnitude, in binary64's units. -/
theorem natAbs_signedVal_le_one64 :
    (signedVal f w).natAbs * 2 ^ 1074 ≤ magUnits 53 0x3FF0000000000000 * 2 ^ (f.width - 1) := by
  rw [magUnits_one64, Nat.mul_comm]
  exact Nat.mul_le_mul_left _ (inRange_signedVal f w).1

/-- Conversion to binary32 is exact exactly where the magnitude's significand fits 24 bits (R127). -/
theorem units32_cvtIntF32_iff :
    units32 (cvtIntF32 f w) * 2 ^ (f.width - 1) = (signedVal f w).natAbs * 2 ^ 149 ↔
      ∃ k e, (signedVal f w).natAbs = k * 2 ^ e ∧ k < 2 ^ 24 := by
  obtain ⟨-, h64⟩ := fmt_width_bounds f
  rw [units32, mag32_cvtIntF32]
  exact rnMag_exact_iff (by decide) (by omega) ((natAbs_signedVal_le_one32 f w).trans
    (Nat.mul_le_mul_right _ ((magUnits_le_iff 24 _ _ (by decide)).2 (by decide))))

/-- Conversion to binary64 is exact exactly where the magnitude's significand fits 53 bits (R127). -/
theorem units64_cvtIntF64_iff :
    units64 (cvtIntF64 f w) * 2 ^ (f.width - 1) = (signedVal f w).natAbs * 2 ^ 1074 ↔
      ∃ k e, (signedVal f w).natAbs = k * 2 ^ e ∧ k < 2 ^ 53 := by
  obtain ⟨-, h64⟩ := fmt_width_bounds f
  rw [units64, mag64_cvtIntF64]
  exact rnMag_exact_iff (by decide) (by omega) ((natAbs_signedVal_le_one64 f w).trans
    (Nat.mul_le_mul_right _ ((magUnits_le_iff 53 _ _ (by decide)).2 (by decide))))

/-- The magnitude of a sample of a width within the significand's fits it (R127). -/
theorem natAbs_signedVal_fits {p : Nat} (h : f.width ≤ p) :
    ∃ k e, (signedVal f w).natAbs = k * 2 ^ e ∧ k < 2 ^ p := by
  obtain ⟨h0, -⟩ := fmt_width_bounds f
  exact ⟨_, 0, (Nat.mul_one _).symm,
    (inRange_signedVal f w).1.trans_lt (Nat.pow_lt_pow_right (by omega) (by omega))⟩

/-- Exactness to binary32 in terms of the values. -/
theorem int32_cvtIntF32_iff :
    int32 (cvtIntF32 f w) * 2 ^ (f.width - 1) = signedVal f w * 2 ^ 149 ↔
      units32 (cvtIntF32 f w) * 2 ^ (f.width - 1) = (signedVal f w).natAbs * 2 ^ 149 := by
  have h := signedNum_mul_eq_iff (decide (signedVal f w < 0)) (units32 (cvtIntF32 f w)) (signedVal f w).natAbs
    (f.width - 1) 149
  rwa [signedNum_natAbs, ← sign32_cvtIntF32] at h

/-- Exactness to binary64 in terms of the values. -/
theorem int64_cvtIntF64_iff :
    int64 (cvtIntF64 f w) * 2 ^ (f.width - 1) = signedVal f w * 2 ^ 1074 ↔
      units64 (cvtIntF64 f w) * 2 ^ (f.width - 1) = (signedVal f w).natAbs * 2 ^ 1074 := by
  have h := signedNum_mul_eq_iff (decide (signedVal f w < 0)) (units64 (cvtIntF64 f w)) (signedVal f w).natAbs
    (f.width - 1) 1074
  rwa [signedNum_natAbs, ← sign64_cvtIntF64] at h

/-- Conversion to binary32 gives 1.0 exactly from halfway to the pattern before 1.0 on (R127). -/
theorem cvtIntF32_eq_one_iff :
    cvtIntF32 f w = one32 ↔
      ¬signedVal f w < 0 ∧ (2 ^ 25 - 1) * 2 ^ (f.width - 1) ≤ 2 ^ 25 * (signedVal f w).natAbs := by
  have hone : sign32 one32 = false ∧ mag32 one32 = 0x3F7FFFFF + 1 := by decide
  have hsum : magUnits 24 0x3F7FFFFF + magUnits 24 (0x3F7FFFFF + 1) = (2 ^ (24 + 1) - 1) * 2 ^ 125 := by decide +kernel
  rw [← rnMag_eq_one_iff (p := 24) (inf := inf32) (by decide) (by decide) (by decide) (by decide) magUnits_one32 hsum
    (inRange_signedVal f w).1, ← mag32_cvtIntF32, ← decide_eq_false_iff_not, ← sign32_cvtIntF32]
  constructor
  · intro h
    rw [h]
    exact hone
  · rintro ⟨hsign, hmag⟩
    rw [← pack32_sign32_mag32 (cvtIntF32 f w), ← pack32_sign32_mag32 one32, hsign, hmag, hone.1, hone.2]

/-- Conversion to binary64 gives 1.0 exactly from halfway to the pattern before 1.0 on (R127). -/
theorem cvtIntF64_eq_one_iff :
    cvtIntF64 f w = 0x3FF0000000000000#64 ↔
      ¬signedVal f w < 0 ∧ (2 ^ 54 - 1) * 2 ^ (f.width - 1) ≤ 2 ^ 54 * (signedVal f w).natAbs := by
  have hone : sign64 0x3FF0000000000000#64 = false ∧ mag64 0x3FF0000000000000#64 = 0x3FEFFFFFFFFFFFFF + 1 := by decide
  have hsum : magUnits 53 0x3FEFFFFFFFFFFFFF + magUnits 53 (0x3FEFFFFFFFFFFFFF + 1) = (2 ^ (53 + 1) - 1) * 2 ^ 1021 := by
    decide +kernel
  rw [← rnMag_eq_one_iff (p := 53) (inf := inf64) (by decide) (by decide) (by decide) (by decide) magUnits_one64 hsum
    (inRange_signedVal f w).1, ← mag64_cvtIntF64, ← decide_eq_false_iff_not, ← sign64_cvtIntF64]
  constructor
  · intro h
    rw [h]
    exact hone
  · rintro ⟨hsign, hmag⟩
    rw [← pack64_sign64_mag64 (cvtIntF64 f w), ← pack64_sign64_mag64 0x3FF0000000000000#64, hsign, hmag, hone.1, hone.2]

end

/-- Settles O11: the result is a rounding of the exact quotient, whose magnitude is at most 1.0. -/
theorem cvtIntegerToFloat : Obligations.CvtIntegerToFloat := by
  intro sf s hsf
  have hpos : 0 < 2 ^ (sf.width - 1) := by positivity
  have hval := signedNum_natAbs (signedVal sf s.opa)
  have hmag32 : mag32 (cvtIntF32 sf s.opa) ≤ 0x3F800000 := by
    rw [mag32_cvtIntF32]
    exact rnMag_le_of_le (by decide) hpos (natAbs_signedVal_le_one32 sf s.opa)
  have hmag64 : mag64 (cvtIntF64 sf s.opa) ≤ 0x3FF0000000000000 := by
    rw [mag64_cvtIntF64]
    exact rnMag_le_of_le (by decide) hpos (natAbs_signedVal_le_one64 sf s.opa)
  obtain ⟨hlo32, hhi32⟩ := le32_of_mag32_le hmag32
  obtain ⟨hlo64, hhi64⟩ := le64_of_mag64_le hmag64
  refine ⟨⟨cvtIntF32 sf s.opa, isRN32_of_eq_rn32 rfl hval hpos, fun h0 => ?zero32, hlo32, hhi32, ?_⟩,
    cvtIntF64 sf s.opa, ?round64, fun h0 => ?zero64, hlo64, hhi64, ?_⟩
  case zero32 => exact cvtIntF32_of_zero sf s.opa h0
  case zero64 => exact cvtIntF64_of_zero sf s.opa h0
  case round64 => with_reducible exact isRN64_of_eq_rn64 rfl hval hpos
  · rw [exec_cvtInstr_eq_next, cvtResult_int_f32 hsf]
    rfl
  · rw [exec_cvtInstr_eq_next, cvtResult_int_f64 hsf]

/-- The widths of the integer formats (R82). -/
theorem width_of_isInt {f : Fmt} (h : f.isInt = true) :
    f.width = 8 ∨ f.width = 16 ∨ f.width = 24 ∨ f.width = 32 ∨ f.width = 48 ∨ f.width = 64 := by
  cases f with
  | f32 | f64 => cases h
  | _ => decide

/-- Settles O12: the conversions are exact where the significand fits (`rnMag_exact_iff`), and the tie of 1.0 is compared with the
range of each width. -/
theorem cvtIntegerToFloatExact : Obligations.CvtIntegerToFloatExact := by
  intro sf s hsf
  obtain ⟨hlo, hhi⟩ := signedVal_range sf s.opa
  have hwidth := width_of_isInt hsf
  refine ⟨⟨cvtIntF32 sf s.opa, ?_, ?_, fun h => ?_, ?one32⟩, cvtIntF64 sf s.opa, ?_, ?_, fun h => ?_, ?one64⟩
  · rw [exec_cvtInstr_eq_next, cvtResult_int_f32 hsf]
    rfl
  · rw [int32_cvtIntF32_iff, units32_cvtIntF32_iff, exists_significand_iff]
  · rw [int32_cvtIntF32_iff, units32_cvtIntF32_iff]
    exact natAbs_signedVal_fits _ _ h
  case one32 =>
    rw [cvtIntF32_eq_one_iff]
    rcases hwidth with hn | hn | hn | hn | hn | hn <;> rw [hn] at hlo hhi ⊢ <;> omega
  · rw [exec_cvtInstr_eq_next, cvtResult_int_f64 hsf]
  · rw [int64_cvtIntF64_iff, units64_cvtIntF64_iff, exists_significand_iff]
  · rw [int64_cvtIntF64_iff, units64_cvtIntF64_iff]
    exact natAbs_signedVal_fits _ _ (by omega)
  case one64 =>
    rw [cvtIntF64_eq_one_iff]
    rcases hwidth with hn | hn | hn | hn | hn | hn <;> rw [hn] at hlo hhi ⊢ <;> omega

/-! ## There and back (R123) -/

/-- Encoding a signed-domain value in range and reading it gives the value (R113, R115). -/
theorem signedVal_encSigned (f : Fmt) (t : Int) (hlo : -2 ^ (f.width - 1) ≤ t) (hhi : t < 2 ^ (f.width - 1)) :
    signedVal f (encSigned f t) = t := by
  obtain ⟨hlo', hhi'⟩ := signedVal_range f (encSigned f t)
  obtain ⟨h0, h64⟩ := fmt_width_bounds f
  have hpow : (2 : Int) ^ f.width = 2 * 2 ^ (f.width - 1) := two_pow_eq_twice h0
  have hlow := toNat_ofInt_emod h64 (t + bias f.isSigned f.width)
  rw [← encSigned_eq, ← sampleVal_emod, sampleVal_eq_signedVal_add_bias] at hlow
  have hdvd : (2 : Int) ^ f.width ∣ signedVal f (encSigned f t) - t := by
    simpa using Int.ModEq.dvd (Int.ModEq.symm hlow)
  have := Int.eq_zero_of_abs_lt_dvd hdvd (abs_lt.2 ⟨by omega, by omega⟩)
  omega

/-- The sample of the signed-domain value 0. -/
theorem signedVal_encSigned_zero (f : Fmt) : signedVal f (encSigned f 0) = 0 :=
  signedVal_encSigned f 0 (neg_nonpos.2 (by positivity)) (by positivity)

/-- Integer to a format that is not narrower, and back: the shift is undone. -/
theorem roundTrip_int_int {a b : Fmt} (ha : a.isInt = true) (hb : b.isInt = true) (hle : a.width ≤ b.width) (w : Word) :
    cvtResult b a (cvtResult a b w) = canonical a w := by
  obtain ⟨hlo, hhi⟩ := signedVal_range a w
  obtain ⟨hlo', hhi'⟩ := rescale_range a.width b.width _ (fmt_width_bounds a).1 (fmt_width_bounds b).1 hlo hhi
  rw [cvtResult_int_int ha hb, cvtResult_int_int hb ha, signedVal_encSigned b _ hlo' hhi', rescale_rescale _ hle,
    encSigned_signedVal]

/-- Integer to binary32 and back, where the width fits the significand: the exact quotient is multiplied back. -/
theorem roundTrip_int_f32 {a : Fmt} (ha : a.isInt = true) (hle : a.width ≤ 24) (w : Word) :
    cvtResult .f32 a (cvtResult a .f32 w) = canonical a w := by
  have hexact := (units32_cvtIntF32_iff a w).2 (natAbs_signedVal_fits a w hle)
  have hof : f32Of (encF32 (cvtIntF32 a w)) = cvtIntF32 a w :=
    (BitVec.setWidth_setWidth_of_le _ (by decide)).trans (BitVec.setWidth_eq _)
  have hin : inContract .f32 (encF32 (cvtIntF32 a w)) = true := by
    rw [inContract_f32_iff, hof, sign32_cvtIntF32]
    exact (inRange_signedVal a w).of_mul_eq hexact (by positivity) (by positivity)
  rw [cvtResult_int_f32 ha, cvtResult_of_inContract _ _ _ hin, cvtWord_f32_int ha, hof, cvtF32Int, hexact, sign32_cvtIntF32,
    Nat.mul_div_cancel _ (by positivity)]
  exact (congrArg (encSigned a) (signedNum_natAbs _)).trans (encSigned_signedVal a w)

/-- Integer to binary64 and back, where the width fits the significand: the exact quotient is multiplied back. -/
theorem roundTrip_int_f64 {a : Fmt} (ha : a.isInt = true) (hle : a.width ≤ 48) (w : Word) :
    cvtResult .f64 a (cvtResult a .f64 w) = canonical a w := by
  have hexact := (units64_cvtIntF64_iff a w).2 (natAbs_signedVal_fits a w (by omega))
  have hin : inContract .f64 (cvtIntF64 a w) = true := by
    rw [inContract_f64_iff, sign64_cvtIntF64]
    exact (inRange_signedVal a w).of_mul_eq hexact (by positivity) (by positivity)
  rw [cvtResult_int_f64 ha, cvtResult_of_inContract _ _ _ hin, cvtWord_f64_int ha, cvtF64Int, hexact, sign64_cvtIntF64,
    Nat.mul_div_cancel _ (by positivity)]
  exact (congrArg (encSigned a) (signedNum_natAbs _)).trans (encSigned_signedVal a w)

/-- Narrowing what a binary32 was widened to gives it back: the value is one that binary32 holds. -/
theorem cvtF64F32_cvtF32F64 (x : F32) (h : units32 x ≤ 2 ^ 149) : cvtF64F32 (cvtF32F64 x) = x := by
  obtain ⟨hsign, hval⟩ := cvtF32F64_exact x h
  have hmag : mag32 x ≤ inf32 := by
    rw [← magUnits_one32, units32, magUnits_le_iff 24 _ _ (by decide)] at h
    exact h.trans (by decide)
  rw [cvtF64F32, rn32, hval, hsign, units32, rnMag_units 24 inf32 _ _ (by positivity) hmag, pack32_sign32_mag32]

/-- Binary32 to binary64 and back. -/
theorem roundTrip_f32_f64 (w : Word) (hin : inContract .f32 w = true) :
    cvtResult .f64 .f32 (cvtResult .f32 .f64 w) = canonical .f32 w := by
  have hrange := (inContract_f32_iff w).1 hin
  obtain ⟨hsign, hval⟩ := cvtF32F64_exact (f32Of w) hrange.1
  have hin' : inContract .f64 (cvtF32F64 (f32Of w)) = true := by
    rw [inContract_f64_iff, hsign]
    exact hrange.of_mul_eq hval (by positivity) (by positivity)
  have hthere : cvtResult .f32 .f64 w = cvtF32F64 (f32Of w) := cvtResult_of_inContract _ _ _ hin
  rw [hthere, cvtResult_of_inContract _ _ _ hin']
  exact congrArg encF32 (cvtF64F32_cvtF32F64 _ hrange.1)

/-- The canonical word of an operand in contract is in contract (R114). -/
theorem inContract_canonical (f : Fmt) (w : Word) (h : inContract f w = true) : inContract f (canonical f w) = true := by
  cases f with
  | f32 => rwa [inContract, show f32Of (canonical .f32 w) = f32Of w from setWidth_canonical .f32 w]
  | f64 => exact h
  | _ => rfl

/-- To the same format and back. -/
theorem roundTrip_self (f : Fmt) (w : Word) (h : inContract f w = true) :
    cvtResult f f (cvtResult f f w) = canonical f w := by
  rw [cvtResult_self f w (.inr h), cvtResult_self f _ (.inr (inContract_canonical f w h)), canonical_canonical]

/-- The five ways to be a listed pair (R123). -/
theorem lossless_iff (a b : Fmt) :
    lossless a b = true ↔ a = b ∨ (a.isInt = true ∧ b.isInt = true ∧ a.width ≤ b.width) ∨
      (a.isInt = true ∧ b = .f32 ∧ a.width ≤ 24) ∨ (a.isInt = true ∧ b = .f64 ∧ a.width ≤ 48) ∨
      (a = .f32 ∧ b = .f64) := by
  simp [lossless, or_assoc, and_assoc]

/-- There and back from `a` over `b` is the identity on every operand in contract (R123). -/
def RoundTrips (a b : Fmt) : Prop :=
  ∀ w : Word, inContract a w = true → cvtResult b a (cvtResult a b w) = canonical a w

/-- There and back over a listed pair is the identity. -/
theorem roundTrips_of_lossless {a b : Fmt} (h : lossless a b = true) : RoundTrips a b := by
  intro w hin
  rcases (lossless_iff a b).1 h with rfl | ⟨ha, hb, hle⟩ | ⟨ha, rfl, hle⟩ | ⟨ha, rfl, hle⟩ | ⟨rfl, rfl⟩
  · exact roundTrip_self a w hin
  · exact roundTrip_int_int ha hb hle w
  · exact roundTrip_int_f32 ha hle w
  · exact roundTrip_int_f64 ha hle w
  · exact roundTrip_f32_f64 w hin

/-- One operand that does not come back refutes the identity. -/
theorem not_roundTrips_of_lost {a b : Fmt} (w : Word)
    (h : inContract a w = true ∧ cvtResult b a (cvtResult a b w) ≠ canonical a w) : ¬RoundTrips a b :=
  fun hback => h.2 (hback w h.1)

/-- An integer is always in contract (R114). -/
theorem inContract_of_isInt {f : Fmt} (hf : f.isInt = true) (w : Word) : inContract f w = true := by
  cases f with
  | f32 | f64 => cases hf
  | _ => rfl

/-- The integer sample of the signed-domain value 1 comes back from a narrower format as that of 0. -/
theorem not_roundTrips_int_int {a b : Fmt} (ha : a.isInt = true) (hb : b.isInt = true) (hlt : b.width < a.width) :
    ¬RoundTrips a b := by
  intro hback
  have hb0 := (fmt_width_bounds b).1
  have hval : ∀ t : Int, t = 0 ∨ t = 1 → signedVal a (encSigned a t) = t := fun t ht => by
    have : (2 : Int) ^ 1 ≤ 2 ^ (a.width - 1) := pow_le_pow_right₀ (by decide) (by omega)
    exact signedVal_encSigned a t (by omega) (by omega)
  have hdrop : rescale a.width b.width 1 = 0 := by
    rw [rescale, if_neg (by omega)]
    exact Int.ediv_eq_zero_of_lt (by decide) (one_lt_pow₀ (by decide) (by omega))
  have h := hback (encSigned a 1) (inContract_of_isInt ha _)
  rw [cvtResult_int_int ha hb, cvtResult_int_int hb ha, hval 1 (.inr rfl), hdrop, signedVal_encSigned_zero, rescale,
    if_pos hlt.le, zero_mul, ← encSigned_signedVal, hval 1 (.inr rfl)] at h
  have := congrArg (signedVal a) h
  rw [hval 0 (.inl rfl), hval 1 (.inr rfl)] at this
  omega

/-- The first value above 24 significant bits does not come back from binary32, in the formats that hold it. -/
theorem not_roundTrips_int_f32 {a : Fmt} (ha : a.isInt = true) (hlt : 24 < a.width) : ¬RoundTrips a .f32 := by
  refine not_roundTrips_of_lost (encSigned a (2 ^ 24 + 1)) ?_
  cases a with
  | f32 | f64 => cases ha
  | i8 | i16 | i24 | u8 | u16 | u24 => exact absurd hlt (by decide)
  | i32 | i48 | i64 | u32 | u48 | u64 => decide +kernel

/-- The first value above 53 significant bits does not come back from binary64, in the formats that hold it. -/
theorem not_roundTrips_int_f64 {a : Fmt} (ha : a.isInt = true) (hlt : 48 < a.width) : ¬RoundTrips a .f64 := by
  refine not_roundTrips_of_lost (encSigned a (2 ^ 53 + 1)) ?_
  cases a with
  | i64 | u64 => decide +kernel
  | f32 | f64 => cases ha
  | _ => exact absurd hlt (by decide)

/-- The product of one unit `1 / 2 ^ c` of a float with the scale of an integer format is below 1. -/
theorem one_unit_truncates (f : Fmt) {c : Nat} (hc : 64 ≤ c) : 1 * 2 ^ (f.width - 1) / 2 ^ c = 0 := by
  obtain ⟨-, h64⟩ := fmt_width_bounds f
  rw [Nat.one_mul]
  exact Nat.div_eq_of_lt (Nat.pow_lt_pow_right (by decide) (by omega))

/-- The least subnormal of binary32 comes back from an integer format as `+0.0`: it is truncated to 0. -/
theorem not_roundTrips_f32_int {b : Fmt} (hb : b.isInt = true) : ¬RoundTrips .f32 b := by
  have hin : inContract .f32 1#64 = true := by decide
  have hone : sign32 (f32Of 1#64) = false ∧ units32 (f32Of 1#64) = 1 := by decide
  have hthere : cvtResult .f32 b 1#64 = encSigned b 0 := by
    rw [cvtResult_of_inContract _ _ _ hin, cvtWord_f32_int hb, cvtF32Int, hone.1, hone.2, one_unit_truncates b (by decide)]
    rfl
  refine not_roundTrips_of_lost 1#64 ⟨hin, ?_⟩
  rw [hthere, cvtResult_int_f32 hb, cvtIntF32_of_zero b _ (signedVal_encSigned_zero b)]
  decide

/-- The least subnormal of binary64 comes back from an integer format as `+0.0`: it is truncated to 0. -/
theorem not_roundTrips_f64_int {b : Fmt} (hb : b.isInt = true) : ¬RoundTrips .f64 b := by
  have hin : inContract .f64 1#64 = true := by decide
  have hone : sign64 1#64 = false ∧ units64 1#64 = 1 := by decide
  have hthere : cvtResult .f64 b 1#64 = encSigned b 0 := by
    rw [cvtResult_of_inContract _ _ _ hin, cvtWord_f64_int hb, cvtF64Int, hone.1, hone.2, one_unit_truncates b (by decide)]
    rfl
  refine not_roundTrips_of_lost 1#64 ⟨hin, ?_⟩
  rw [hthere, cvtResult_int_f64 hb, cvtIntF64_of_zero b _ (signedVal_encSigned_zero b)]
  decide

/-- The least subnormal of binary64 comes back from binary32 as `+0.0`. -/
theorem not_roundTrips_f64_f32 : ¬RoundTrips .f64 .f32 := not_roundTrips_of_lost 1#64 (by decide +kernel)

/-- The float formats (R82). -/
theorem eq_of_isInt_eq_false {f : Fmt} (hf : f.isInt = false) : f = .f32 ∨ f = .f64 := by
  cases f with
  | f32 => exact .inl rfl
  | f64 => exact .inr rfl
  | _ => cases hf

/-- A pair of formats that round-trips is a listed one, by the classes of the two formats. -/
theorem lossless_of_roundTrips {a b : Fmt} (h : RoundTrips a b) : lossless a b = true := by
  rw [lossless_iff]
  cases ha : a.isInt <;> cases hb : b.isInt
  case false.false =>
    rcases eq_of_isInt_eq_false ha with rfl | rfl <;> rcases eq_of_isInt_eq_false hb with rfl | rfl
    · exact .inl rfl
    · exact .inr (.inr (.inr (.inr ⟨rfl, rfl⟩)))
    · exact absurd h not_roundTrips_f64_f32
    · exact .inl rfl
  case false.true =>
    rcases eq_of_isInt_eq_false ha with rfl | rfl
    · exact absurd h (not_roundTrips_f32_int hb)
    · exact absurd h (not_roundTrips_f64_int hb)
  case true.false =>
    rcases eq_of_isInt_eq_false hb with rfl | rfl
    · exact .inr (.inr (.inl ⟨rfl, rfl, Nat.le_of_not_lt fun hlt => not_roundTrips_int_f32 ha hlt h⟩))
    · exact .inr (.inr (.inr (.inl ⟨rfl, rfl, Nat.le_of_not_lt fun hlt => not_roundTrips_int_f64 ha hlt h⟩)))
  case true.true => exact .inr (.inl ⟨rfl, rfl, Nat.le_of_not_lt fun hlt => not_roundTrips_int_int ha hb hlt h⟩)

/-- Settles O17: each listed class round-trips, and each other class has an operand that does not come back. -/
theorem cvtRoundTrip : Obligations.CvtRoundTrip := fun _ _ => ⟨roundTrips_of_lossless, lossless_of_roundTrips⟩

end Sys2Proof.Machine
end

section
/-! The statements on the waveforms (46_waveform.md), first those on values: the fractional part of R502, the ranges of R503, R505
and R507, and the phase of an index of R501. -/

namespace Sys2Proof.Machine

/-! ## The fractional part (R502) -/

/-- The fraction of a binary32 is the value of a pattern: it keeps the low bits of the 24-bit significand. -/
theorem exists_magUnits_eq_units32_mod (p : F32) : ∃ m, magUnits 24 m = units32 p % 2 ^ 149 := by
  obtain ⟨k, e, hval, hk⟩ := magUnits_eq_mul_two_pow (p := 24) (by omega) (mag32 p)
  unfold units32
  rw [hval]
  rcases Nat.le_total 149 e with he | he
  · refine ⟨0, ?_⟩
    obtain ⟨r, rfl⟩ := Nat.exists_eq_add_of_le he
    rw [pow_add, Nat.mul_left_comm, Nat.mul_mod_right]
    decide
  · obtain ⟨r, hr⟩ := Nat.exists_eq_add_of_le he
    obtain ⟨m, hm⟩ := exists_magUnits_eq (p := 24) (by omega) (k % 2 ^ r) e ((Nat.mod_le _ _).trans_lt hk)
    exact ⟨m, by rw [hm, hr, Nat.add_comm e r, pow_add, Nat.mul_mod_mul_right]⟩

/-- From `2^23` on a binary32 has no fraction: a 24-bit significand reaches it only with an exponent that makes it an integer. -/
theorem units32_mod_of_large (p : F32) (h : 2 ^ 172 ≤ units32 p) : units32 p % 2 ^ 149 = 0 := by
  obtain ⟨k, e, hval, hk⟩ := magUnits_eq_mul_two_pow (p := 24) (by omega) (mag32 p)
  unfold units32 at *
  rw [hval] at h ⊢
  have he : 149 ≤ e := by
    by_contra hlt
    have hpow : 2 ^ e ≤ 2 ^ 148 := Nat.pow_le_pow_right (by omega) (by omega)
    have := Nat.mul_lt_mul_of_lt_of_le hk hpow (by omega)
    omega
  obtain ⟨r, rfl⟩ := Nat.exists_eq_add_of_le he
  rw [pow_add, Nat.mul_left_comm, Nat.mul_mod_right]

/-- A value that is not negative is its magnitude, also where it is `-0.0`. -/
theorem int32_eq_units32 {p : F32} (hfin : isFin32 p = true) (h0 : le32 zero32 p = true) : int32 p = units32 p := by
  rw [le32_iff _ _ (by decide) hfin, int32_zero32] at h0
  unfold int32 at *
  split at h0 <;> simp_all

/-- `frac32` of a finite value `>= 0` is the rounding of the exact fraction. -/
theorem frac32_eq_rn32 {p : F32} (hfin : isFin32 p = true) (h0 : le32 zero32 p = true) :
    frac32 p = rn32 false (units32 p % 2 ^ 149) (2 ^ 149) := by
  have hval := int32_eq_units32 hfin h0
  have hzero := units32_eq_zero p
  have hguard : (isFin32 p && (!sign32 p || decide (mag32 p = 0))) = true := by
    cases hs : sign32 p
    · simp [hfin]
    · simp only [int32, hs, if_true] at hval
      simp only [hfin, Bool.not_true, Bool.false_or, Bool.true_and, decide_eq_true_eq]
      omega
  rw [frac32, if_pos hguard]

/-- `frac32` of a finite value `>= 0` is the pattern of the exact fraction, with the positive sign. -/
theorem frac32_eq_pack32 {p : F32} (hfin : isFin32 p = true) (h0 : le32 zero32 p = true) :
    ∃ m < inf32, frac32 p = pack32 false m ∧ magUnits 24 m = units32 p % 2 ^ 149 := by
  obtain ⟨m, hm⟩ := exists_magUnits_eq_units32_mod p
  have hlt : m < inf32 := by
    have hone : m < 0x3F800000 := (magUnits_lt_iff 24 _ _ (by omega)).1 (by rw [hm, magUnits_one32]; omega)
    exact hone.trans (by decide)
  refine ⟨m, hlt, ?_, hm⟩
  rw [frac32_eq_rn32 hfin h0, ← hm]
  simpa using rn32_units false m 1 (by omega) hlt

/-- The fractional part loses nothing: its value is exactly `p - floor(p)`. -/
theorem int32_frac32 {p : F32} (hfin : isFin32 p = true) (h0 : le32 zero32 p = true) :
    int32 (frac32 p) = int32 p % 2 ^ 149 := by
  obtain ⟨m, hlt, hfrac, hm⟩ := frac32_eq_pack32 hfin h0
  have hm31 : m < 2 ^ 31 := hlt.trans (by decide)
  rw [hfrac, int32_eq_signedNum, sign32_pack32 _ _ hm31, mag32_pack32 _ _ hm31, hm, int32_eq_units32 hfin h0]
  rfl

/-- The fractional part of an integer is `+0.0`. -/
theorem frac32_of_integer {p : F32} (hfin : isFin32 p = true) (h0 : le32 zero32 p = true) (hz : units32 p % 2 ^ 149 = 0) :
    frac32 p = 0#32 := by
  rw [frac32_eq_rn32 hfin h0, hz]
  decide +kernel

/-- Settles O19: the exact fraction is the value of a pattern, so its rounding is exact. -/
theorem fractionIsExact : Obligations.FractionIsExact := by
  refine ⟨rfl, fun p hfin h0 => ?_⟩
  have hval := int32_eq_units32 hfin h0
  refine ⟨int32_frac32 hfin h0, fun hz => frac32_of_integer hfin h0 (by omega), frac32_inUnit p hfin h0, fun hlarge => ?_⟩
  rw [le32_iff _ _ (by decide) hfin, show int32 0x4B000000#32 = 2 ^ 172 by decide] at hlarge
  exact frac32_of_integer hfin h0 (units32_mod_of_large p (by omega))

/-! ## The phase of an index (R501) -/

/-- A zero of either sign is finite and not negative. -/
theorem freqInContract_of_zero {f : F32} (h : mag32 f = 0) : freqInContract f = true := by
  have hfin : isFin32 f = true := by
    rw [isFin32_iff, h]
    decide
  have hval : int32 f = 0 := by simp [int32, (units32_eq_zero f).2 h]
  simp only [freqInContract, hfin, Bool.true_and]
  rw [le32_iff _ _ (by decide) hfin, hval, int32_zero32]

/-- A frequency in contract is finite and not negative (R504). -/
theorem freqInContract_iff (f : F32) : freqInContract f = true ↔ isFin32 f = true ∧ le32 zero32 f = true := by
  simp [freqInContract]

/-- The contract at an index: the frequency's own, and a finite product (R504). -/
theorem phaseInContract_iff (c : Params) (index : Nat) (f : F32) :
    phaseInContract c index f = true ↔ freqInContract f = true ∧ isFin32 (cycles32 c index f) = true := by
  simp [phaseInContract]

/-- A rounding of 0 is a zero with the sign it was given. -/
theorem mag32_rn32_zero (neg : Bool) (d : Nat) (hd : 0 < d) : mag32 (rn32 neg 0 d) = 0 := by
  have h := rnMag_units 24 inf32 0 d hd (by decide)
  rw [mag32_rn32]
  simpa [show magUnits 24 0 = 0 by decide] using h

/-- A product of finite values one of which is a zero is a zero. -/
theorem mag32_mul32_zero {a b : F32} (ha : isFin32 a = true) (hb : isFin32 b = true) (h : mag32 a = 0 ∨ mag32 b = 0) :
    mag32 (mul32 a b) = 0 := by
  have hprod : units32 a * units32 b = 0 := by
    rw [Nat.mul_eq_zero, units32_eq_zero, units32_eq_zero]
    exact h
  rw [mul32_eq_rn32 a b ha hb, hprod]
  exact mag32_rn32_zero _ _ (by positivity)

/-- The fractional part of a zero of either sign is `+0.0` (R502). -/
theorem frac32_of_zero {p : F32} (h : mag32 p = 0) : frac32 p = 0#32 := by
  obtain ⟨hfin, h0⟩ := (freqInContract_iff p).1 (freqInContract_of_zero h)
  exact frac32_of_integer hfin h0 (by rw [(units32_eq_zero p).2 h, Nat.zero_mod])

/-- A NaN is not finite. -/
theorem isFin32_of_isNaN32 {x : F32} (h : isNaN32 x = true) : isFin32 x = false := by
  rw [isNaN32_iff] at h
  rw [Bool.eq_false_iff, Ne, isFin32_iff]
  omega

/-- A product with an infinity is a NaN or an infinity (R9). -/
theorem isFin32_mul32_of_isInf32 {a : F32} (b : F32) (ha : isInf32 a = true) : isFin32 (mul32 a b) = false := by
  have hinf : ∀ neg : Bool, isFin32 (pack32 neg inf32) = false := by decide
  simp only [mul32, isNaN32_of_isInf32 a ha, ha, Bool.false_or, if_true]
  split
  · exact isFin32_of_isNaN32 (isNaN32_nan32 ..)
  · split
    · exact isFin32_of_isNaN32 (isNaN32_nan32 ..)
    · exact hinf _

section
variable {c : Params}

/-- An index that does not round to infinity, divided by the sample rate, is finite and not negative (R501). -/
theorem index_div_rate_range (hc : c.wf) {index : Nat} (hfin : isFin32 (rn32 false index 1) = true) :
    isFin32 (div32 (rn32 false index 1) (rate32 c)) = true ∧
    le32 zero32 (div32 (rn32 false index 1) (rate32 c)) = true := by
  have h0 : le32 zero32 (rn32 false index 1) = true := by
    refine le32_of_key32 _ _ (by decide) (isNaN32_rn32 ..) (le_key32_rn32 _ _ _ _ (by omega) (by decide) ?_)
    rw [int32_zero32]
    simp only [signedNum, Bool.false_eq_true, if_false]
    omega
  obtain ⟨hlo, hhi⟩ := div32_rate_range c _ hc hfin h0
  exact ⟨isFin32_of_between _ _ _ (by decide) hfin hlo hhi, hlo⟩

/-- A 64-bit index is far below the overflow threshold of binary32. -/
theorem isFin32_rn32_index {index : Nat} (h : index < 2 ^ 64) : isFin32 (rn32 false index 1) = true := by
  have hov := (inf32_le_rnRaw_iff (index * 2 ^ 149) 1 (by omega)).not.2 (by omega)
  rw [isFin32_iff, mag32_rn32, rnMag_eq]
  omega

/-- An index beyond the range of binary32 divided by the sample rate stays infinite. -/
theorem isInf32_index_div_rate (hc : c.wf) {index : Nat} (h : ¬isFin32 (rn32 false index 1) = true) :
    isInf32 (div32 (rn32 false index 1) (rate32 c)) = true := by
  have hrate := (rate32_range c hc).1
  have hinf : isInf32 (rn32 false index 1) = true := by
    have := rnMag_le 24 inf32 (index * 2 ^ 149) 1
    rw [isFin32_iff, mag32_rn32] at h
    rw [isInf32_iff, mag32_rn32]
    omega
  simp only [div32, isNaN32_of_isInf32 _ hinf, isNaN32_of_isFin32 _ hrate, isInf32_of_isFin32 _ hrate, hinf, Bool.or_self,
    Bool.false_eq_true, if_false, if_true]
  rw [isInf32_iff, mag32_pack32 _ _ (by decide)]

/-- Index 0 has phase `+0.0` (R501). -/
theorem phase32_index_zero (hc : c.wf) {f : F32} (hf : freqInContract f = true) : phase32 c 0 f = 0#32 := by
  obtain ⟨hffin, -⟩ := (freqInContract_iff f).1 hf
  obtain ⟨hrfin, hrate⟩ := rate32_range c hc
  have hzero := mag32_rn32_zero false 1 (by omega)
  have hfin := isFin32_rn32_index (index := 0) (by omega)
  have hrpos : mag32 (rate32 c) ≠ 0 := fun h => by
    simp [int32, (units32_eq_zero _).2 h] at hrate
  have hquot : mag32 (div32 (rn32 false 0 1) (rate32 c)) = 0 := by
    rw [div32_finite _ _ hfin hrfin hrpos, (units32_eq_zero _).2 hzero]
    exact mag32_rn32_zero _ _ (Nat.pos_of_ne_zero fun h => hrpos ((units32_eq_zero _).1 h))
  exact frac32_of_zero (mag32_mul32_zero (index_div_rate_range hc hfin).1 hffin (.inl hquot))

/-- Frequency 0 is in contract at every index, with phase `+0.0` (R501, R504). -/
theorem phase32_freq_zero (hc : c.wf) {index : Nat} {f : F32} (hindex : index < 2 ^ 64) (hf : mag32 f = 0) :
    phaseInContract c index f = true ∧ phase32 c index f = 0#32 := by
  have hfreq := freqInContract_of_zero hf
  obtain ⟨hffin, -⟩ := (freqInContract_iff f).1 hfreq
  have hzero : mag32 (cycles32 c index f) = 0 :=
    mag32_mul32_zero (index_div_rate_range hc (isFin32_rn32_index hindex)).1 hffin (.inr hf)
  refine ⟨(phaseInContract_iff ..).2 ⟨hfreq, ?_⟩, frac32_of_zero hzero⟩
  rw [isFin32_iff, hzero]
  decide

/-- The product of an index and a frequency in contract is not negative: were the index infinite, so would be the product. -/
theorem cycles32_nonneg (hc : c.wf) {index : Nat} {f : F32} (h : phaseInContract c index f = true) :
    le32 zero32 (cycles32 c index f) = true := by
  obtain ⟨hfreq, hfin⟩ := (phaseInContract_iff ..).1 h
  obtain ⟨hffin, hf0⟩ := (freqInContract_iff f).1 hfreq
  by_cases hindex : isFin32 (rn32 false index 1) = true
  · obtain ⟨hqfin, hq0⟩ := index_div_rate_range hc hindex
    rw [le32_iff _ _ (by decide) hqfin, int32_zero32] at hq0
    rw [le32_iff _ _ (by decide) hffin, int32_zero32] at hf0
    refine le_mul32 _ _ _ hqfin hffin (by decide) ?_
    rw [int32_zero32, Int.zero_mul]
    exact mul_nonneg hq0 hf0
  · rw [cycles32, isFin32_mul32_of_isInf32 _ (isInf32_index_div_rate hc hindex)] at hfin
    exact absurd hfin Bool.false_ne_true

end

/-- Settles O22: a zero factor makes the product a zero, and a product in contract is finite and not negative. -/
theorem smpPhase : Obligations.SmpPhase := by
  intro c index f hc
  refine ⟨phase32_index_zero hc, phase32_freq_zero hc, fun h => ?_⟩
  have h0 := cycles32_nonneg hc h
  exact ⟨h0, frac32_inUnit _ ((phaseInContract_iff ..).1 h).2 h0⟩

end Sys2Proof.Machine
end

section
/-! The ranges of the waveform functions on a phase in [0, 1) (46_waveform.md R503, R505, R507). -/

namespace Sys2Proof.Machine

/-! ## Ranges through the operations of R9 -/

/-- The greatest binary32 below the top of the saw, `1 - 2^-23`. -/
def sawTop32 : F32 := 0x3F7FFFFE#32

/-- Its value. -/
theorem int32_sawTop32 : int32 sawTop32 = (2 ^ 24 - 2) * 2 ^ 125 := by decide

/-- The magnitude pattern of an absolute value. -/
theorem mag32_abs32 (x : F32) : mag32 (abs32 x) = mag32 x := by
  have h : (abs32 x).setWidth 31 = x.setWidth 31 := by
    apply BitVec.eq_of_getLsbD_eq
    intro i hi
    simp only [abs32, BitVec.getLsbD_setWidth, BitVec.getLsbD_and, hi, decide_true, Bool.true_and]
    rw [show (0x7FFFFFFF#32).getLsbD i = true by interval_cases i <;> rfl, Bool.and_true]
  simpa [mag32] using congrArg BitVec.toNat h

/-- An absolute value has no sign. -/
theorem sign32_abs32 (x : F32) : sign32 (abs32 x) = false := by
  have h : (0x7FFFFFFF#32).msb = false := by decide
  simp [sign32, abs32, h]

/-- An absolute value is finite if the value is. -/
theorem isFin32_abs32 (x : F32) : isFin32 (abs32 x) = isFin32 x := by simp [isFin32, mag32_abs32]

/-- The value of an absolute value. -/
theorem int32_abs32 (x : F32) : int32 (abs32 x) = |int32 x| := by
  unfold int32 units32
  rw [sign32_abs32, mag32_abs32]
  cases sign32 x <;> simp

section
variable {a b lo hi : F32}

/-- A difference between two finite values rounds to a finite value between them. -/
theorem sub32_between (ha : isFin32 a = true) (hb : isFin32 b = true) (hlo : isFin32 lo = true) (hhi : isFin32 hi = true)
    (h1 : int32 lo ≤ int32 a - int32 b) (h2 : int32 a - int32 b ≤ int32 hi) :
    isFin32 (sub32 a b) = true ∧ int32 lo ≤ int32 (sub32 a b) ∧ int32 (sub32 a b) ≤ int32 hi :=
  int32_between hlo hhi (le_sub32 a b lo ha hb hlo h1) (sub32_le a b hi ha hb hhi h2)

/-- A product between two finite values rounds to a finite value between them. -/
theorem mul32_between (ha : isFin32 a = true) (hb : isFin32 b = true) (hlo : isFin32 lo = true) (hhi : isFin32 hi = true)
    (h1 : int32 lo * 2 ^ 149 ≤ int32 a * int32 b) (h2 : int32 a * int32 b ≤ int32 hi * 2 ^ 149) :
    isFin32 (mul32 a b) = true ∧ int32 lo ≤ int32 (mul32 a b) ∧ int32 (mul32 a b) ≤ int32 hi :=
  int32_between hlo hhi (le_mul32 a b lo ha hb hlo h1) (mul32_le a b hi ha hb hhi h2)

end

/-- A key other than 0 has one pattern. -/
theorem eq_of_key32_eq {x y : F32} (h : key32 x = key32 y) (h0 : key32 x ≠ 0) : x = y := by
  rw [← pack32_sign32_mag32 x, ← pack32_sign32_mag32 y]
  unfold key32 at h h0
  cases hx : sign32 x <;> cases hy : sign32 y <;> simp only [hx, hy, Bool.false_eq_true, if_true, if_false] at h h0
  · rw [show mag32 x = mag32 y by omega]
  · omega
  · omega
  · rw [show mag32 x = mag32 y by omega]

section
variable {ph : F32}

/-! ## The saw -/

/-- The saw is in [-1.0, 1.0 - 2^-23]: the greatest phase doubled is `2 - 2^-23` (R505). -/
theorem waveSaw_range (hph : InUnit ph) :
    le32 negOne32 (waveSaw ph) = true ∧ le32 (waveSaw ph) sawTop32 = true := by
  obtain ⟨hfin, h0, -⟩ := (inUnit_iff ph).1 hph
  have h1 := hph.int32_le
  have htop : int32 0x3FFFFFFF#32 = (2 ^ 24 - 1) * 2 ^ 126 := by decide
  obtain ⟨hdfin, hd0, hd1⟩ := mul32_between (a := two32) (lo := zero32) (hi := 0x3FFFFFFF#32) (by decide) hfin (by decide)
    (by decide) (by rw [int32_zero32, int32_two32]; omega) (by rw [htop, int32_two32]; omega)
  rw [int32_zero32] at hd0
  rw [htop] at hd1
  refine ⟨le_sub32 _ _ _ hdfin (by decide) (by decide) ?_, sub32_le _ _ _ hdfin (by decide) (by decide) ?_⟩
  · rw [int32_negOne32, int32_one32]
    omega
  · rw [int32_one32, int32_sawTop32]
    omega

/-! ## The triangle -/

/-- Every other binary32 is at least `2^-25` away from 0.5: the neighbours of 0.5 are. -/
theorem half32_gap (hne : ph ≠ half32) :
    int32 ph ≤ 2 ^ 148 - 2 ^ 124 ∨ 2 ^ 148 + 2 ^ 124 ≤ int32 ph := by
  have hkey : key32 ph ≠ key32 half32 := fun h => hne (eq_of_key32_eq h (by rw [h]; decide))
  have hprev : key32 half32 = key32 0x3EFFFFFF#32 + 1 ∧ int32 0x3EFFFFFF#32 = 2 ^ 148 - 2 ^ 124 := by decide
  have hnext : key32 0x3F000001#32 = key32 half32 + 1 ∧ int32 0x3F000001#32 = 2 ^ 148 + 2 ^ 125 := by decide
  have hbelow := key32_lt_iff 0x3EFFFFFF#32 ph
  have habove := key32_lt_iff ph 0x3F000001#32
  omega

/-- The distance of a phase from 0.5, as the triangle takes it: at most 0.5, and at least `2^-25` unless the phase is 0.5. -/
theorem abs32_phase_range (hph : InUnit ph) :
    isFin32 (abs32 (sub32 ph half32)) = true ∧ 0 ≤ int32 (abs32 (sub32 ph half32)) ∧
    int32 (abs32 (sub32 ph half32)) ≤ 2 ^ 148 ∧ (ph ≠ half32 → 2 ^ 124 ≤ int32 (abs32 (sub32 ph half32))) := by
  obtain ⟨hfin, h0, h1⟩ := (inUnit_iff ph).1 hph
  have hneg : int32 0xBF000000#32 = -2 ^ 148 := by decide
  obtain ⟨hdfin, hd0, hd1⟩ := sub32_between (b := half32) (lo := 0xBF000000#32) (hi := half32) hfin (by decide) (by decide)
    (by decide) (by rw [hneg, int32_half32]; omega) (by rw [int32_half32]; omega)
  rw [hneg] at hd0
  rw [int32_half32] at hd1
  rw [isFin32_abs32, int32_abs32]
  refine ⟨hdfin, abs_nonneg _, abs_le.2 ⟨hd0, hd1⟩, fun hne => le_abs'.2 ?_⟩
  have hgap : int32 0x33000000#32 = 2 ^ 124 ∧ int32 0xB3000000#32 = -2 ^ 124 := by decide
  rcases half32_gap hne with hlow | hhigh
  · have hle := sub32_le ph half32 0xB3000000#32 hfin (by decide) (by decide) (by rw [hgap.2, int32_half32]; omega)
    rw [le32_iff _ _ hdfin (by decide), hgap.2] at hle
    exact .inl hle
  · have hle := le_sub32 ph half32 0x33000000#32 hfin (by decide) (by decide) (by rw [hgap.1, int32_half32]; omega)
    rw [le32_iff _ _ (by decide) hdfin, hgap.1] at hle
    exact .inr hle

/-- The fall of the triangle from its peak: four times the distance from 0.5, at most 2, and at least `2^-23` off the peak. -/
theorem triangle_fall_range (hph : InUnit ph) :
    isFin32 (mul32 0x40800000#32 (abs32 (sub32 ph half32))) = true ∧
    0 ≤ int32 (mul32 0x40800000#32 (abs32 (sub32 ph half32))) ∧
    int32 (mul32 0x40800000#32 (abs32 (sub32 ph half32))) ≤ 2 ^ 150 ∧
    (ph ≠ half32 → 2 ^ 126 ≤ int32 (mul32 0x40800000#32 (abs32 (sub32 ph half32)))) := by
  obtain ⟨hfin, h0, h1, hgap⟩ := abs32_phase_range hph
  generalize abs32 (sub32 ph half32) = d at *
  have hfour : int32 0x40800000#32 = 2 ^ 151 := by decide
  obtain ⟨hmfin, hm0, hm1⟩ := mul32_between (a := 0x40800000#32) (lo := zero32) (hi := two32) (by decide) hfin (by decide)
    (by decide) (by rw [int32_zero32, hfour]; omega) (by rw [int32_two32, hfour]; omega)
  rw [int32_zero32] at hm0
  rw [int32_two32] at hm1
  refine ⟨hmfin, hm0, hm1, fun hne => ?_⟩
  have hd := hgap hne
  have hstep : int32 0x34000000#32 = 2 ^ 126 := by decide
  have hle := le_mul32 0x40800000#32 d 0x34000000#32 (by decide) hfin (by decide) (by rw [hstep, hfour]; omega)
  rwa [le32_iff _ _ (by decide) hmfin, hstep] at hle

/-- The triangle is in [-1.0, 1.0] (R505). -/
theorem waveTri_range (hph : InUnit ph) : le32 negOne32 (waveTri ph) = true ∧ le32 (waveTri ph) one32 = true := by
  obtain ⟨hfin, h0, h1, -⟩ := triangle_fall_range hph
  refine ⟨le_sub32 _ _ _ (by decide) hfin (by decide) ?_, sub32_le _ _ _ (by decide) hfin (by decide) ?_⟩
  · rw [int32_negOne32, int32_one32]
    omega
  · omega

/-- The triangle has its peak exactly at phase 0.5: off it the fall reaches the next binary32 below 1 (R505). -/
theorem waveTri_eq_one_iff (hph : InUnit ph) : waveTri ph = one32 ↔ ph = half32 := by
  constructor
  · intro hpeak
    by_contra hne
    obtain ⟨hfin, -, -, hfall⟩ := triangle_fall_range hph
    have hle : le32 (waveTri ph) sawTop32 = true := by
      refine sub32_le _ _ _ (by decide) hfin (by decide) ?_
      have := hfall hne
      rw [int32_one32, int32_sawTop32]
      omega
    rw [hpeak] at hle
    exact absurd hle (by decide)
  · rintro rfl
    decide +kernel

/-! ## The square, the sine and the cosine -/

/-- The square is 1.0 below the duty and -1.0 from it on (R505). -/
theorem waveSqr_cases (ph : F32) (dc : Duty) :
    waveSqr ph dc = one32 ∧ lt32 ph dc.value = true ∨ waveSqr ph dc = negOne32 ∧ lt32 ph dc.value = false := by
  unfold waveSqr
  split
  next h => exact .inl ⟨rfl, h⟩
  next h => exact .inr ⟨rfl, Bool.eq_false_iff.2 h⟩

/-- The angle of a phase in [0, 1) is finite, so that R503 bounds its sine and cosine. -/
theorem isFin32_angle (hph : InUnit ph) : isFin32 (mul32 ph twoPi32) = true := by
  obtain ⟨hfin, h0, h1⟩ := (inUnit_iff ph).1 hph
  have hpos : 0 ≤ int32 twoPi32 := by decide
  refine (mul32_between (lo := zero32) (hi := twoPi32) hfin (by decide) (by decide) (by decide) ?_ ?_).1
  · rw [int32_zero32, Int.zero_mul]
    exact mul_nonneg h0 hpos
  · rw [mul_comm]
    exact mul_le_mul_of_nonneg_left h1.le hpos

/-- A sine of a finite argument is in [-1.0, 1.0], whatever the function is (R503). -/
theorem sin32_range {x : F32} (hx : isFin32 x = true) : within32 negOne32 (sin32 x) one32 = true := by
  unfold sin32
  dsimp only
  split
  · decide
  · split
    · decide
    next h => simpa [hx] using h

/-- A cosine of a finite argument is in [-1.0, 1.0], whatever the function is (R503). -/
theorem cos32_range {x : F32} (hx : isFin32 x = true) : within32 negOne32 (cos32 x) one32 = true := by
  unfold cos32
  dsimp only
  split
  · decide
  · split
    · decide
    next h => simpa [hx] using h

end

/-- Settles O20: the range of each waveform from the ranges of its operations. -/
theorem waveRanges : Obligations.WaveRanges := by
  intro ph dc hph
  obtain ⟨htri0, htri1⟩ := waveTri_range hph
  have hangle := isFin32_angle hph
  exact ⟨waveSaw_range hph, ⟨htri0, htri1, waveTri_eq_one_iff hph⟩, waveSqr_cases ph dc,
    (within32_iff ..).1 (sin32_range hangle), (within32_iff ..).1 (cos32_range hangle)⟩

end Sys2Proof.Machine
end

section
/-! The sample and oscillator commands in and out of contract (46_waveform.md R504, R508 to R516), and where a step of the block
stops (20_memory.md R65, R70, 70_reset_and_hazards.md R781). -/

namespace Sys2Proof.Machine

/-! ## The commands on a frequency in contract -/

/-- A `SMP` command in contract ends with the sample (R508 to R512). -/
theorem sampleAt_of_inContract {s : State} (wk : Wave) (df : Fmt) (dc : Duty)
    (h : phaseInContract s.cfg (opaIndex s) (opbF32 s) = true) :
    sampleAt wk df dc s = retOk s (smpWord s.cfg wk df dc (opaIndex s) (opbF32 s)) := by
  rw [sampleAt, if_pos h]

/-- Settles O21: the two contracts of R504 are met, and the sample is the word of `OUT` on the waveform of the phase. -/
theorem smpResult : Obligations.SmpResult := by
  rintro wk df dc s f p ph y rfl hfin h0 rfl hp rfl hy
  have hcontract : phaseInContract s.cfg (opaIndex s) (opbF32 s) = true :=
    (phaseInContract_iff ..).2 ⟨(freqInContract_iff _).2 ⟨hfin, h0⟩, hp⟩
  refine ⟨smpWord s.cfg wk df dc (opaIndex s) (opbF32 s), ?_, ?_⟩
  · rw [exec_smpInstr, sampleAt_of_inContract wk df dc hcontract]
    rfl
  · have hwave : y = wave32 wk (phase32 s.cfg (opaIndex s) (opbF32 s)) dc := by
      rw [hy]
      cases wk <;> rfl
    rw [hwave]
    rfl

section
variable {s : State} {i : BitVec 8} {o : Osc}

/-- `OSC.CFG` of a source kind writes all registers of its oscillator (R514). -/
theorem execOscCfg_of_some (ho : getOsc s i = some o) {wk : Wave} (hwk : wk.isSourceKind = true) (dc : Duty) :
    execOscCfg wk dc i s = retOk (putOsc s i (oscConfigured wk dc (opbF32 s))) 0#64 := by
  simp [execOscCfg, hwk, ho]

/-- `OSC.NEXT` on a configured instance: the frequency contract decides (R515). -/
theorem execOscNext_of_some (ho : getOsc s i = some o) (hcfg : o.cfg = true) (df : Fmt) :
    execOscNext df i s =
      if freqInContract o.freq then
        retOk (putOsc s i (oscAdvanced s.cfg o)) (outStage df (wave32 o.kind o.phase o.duty))
      else .refused .frequencyOutOfContract := by
  simp [execOscNext, ho, hcfg]

/-- `OSC.AT` on a configured instance: the frequency contract at the index decides (R516). -/
theorem execOscAt_of_some (ho : getOsc s i = some o) (hcfg : o.cfg = true) (df : Fmt) :
    execOscAt df i s =
      if phaseInContract s.cfg (opaIndex s) o.freq then
        retOk s (smpWord s.cfg o.kind df o.duty (opaIndex s) o.freq)
      else .refused .frequencyOutOfContract := by
  simp [execOscAt, ho, hcfg]

end

/-- Settles O23: the instance is there, whatever its registers hold. -/
theorem oscConfigure : Obligations.OscConfigure := by
  intro wk dc i s hwk hi hlen
  have ho : getOsc s i = some s.osc[i.toNat] := (getOsc_eq_some ..).2 ⟨hi, List.getElem?_eq_getElem hlen⟩
  exact execOscCfg_of_some ho hwk dc

/-- Settles O24: the sample is `OUT` of the waveform of the stored phase, and `oscAdvanced` writes the phase only. -/
theorem oscNextSample : Obligations.OscNextSample := by
  rintro df i s o y hi ho hcfg hfin h0 rfl
  show execOscNext df i s = _
  rw [execOscNext_of_some ((getOsc_eq_some ..).2 ⟨hi, ho⟩) hcfg, if_pos ((freqInContract_iff _).2 ⟨hfin, h0⟩)]
  rfl

/-- The frequency that a port of 64 bits carries is read back from it (R22). -/
theorem opbF32_of_setWidth (s : State) (f : F32) : opbF32 { s with opb := f.setWidth 64 } = f := by
  simp [opbF32, f32Of]

/-- Settles O25: both commands end with the word of `SMP` at the configured kind, duty and frequency. -/
theorem oscAtIsSmp : Obligations.OscAtIsSmp := by
  intro df i s o hi ho hcfg hcontract
  refine ⟨smpWord s.cfg o.kind df o.duty (opaIndex s) o.freq, ?_, ?_⟩
  · exact (execOscAt_of_some ((getOsc_eq_some ..).2 ⟨hi, ho⟩) hcfg df).trans (if_pos hcontract)
  · have hfreq := opbF32_of_setWidth s o.freq
    rw [exec_smpInstr, sampleAt_of_inContract _ _ _ (by rwa [hfreq]), hfreq]
    rfl

/-! ## The commands out of contract -/

section
variable {s : State} {i : BitVec 8}

/-- A `SMP` command out of contract is refused (R504). -/
theorem sampleAt_of_outOfContract (wk : Wave) (df : Fmt) (dc : Duty)
    (h : phaseInContract s.cfg (opaIndex s) (opbF32 s) = false) :
    sampleAt wk df dc s = .refused .frequencyOutOfContract := by
  simp [sampleAt, h]

/-- `TBL.BUILD` into a buffer of the right length is refused on a frequency out of contract (R504). -/
theorem execTblBuild_of_outOfContract {wk : Wave} (hwk : wk.isSourceKind = true)
    (hlen : s.cfg.privLen[i.toNat]? = some s.cfg.sampleRate) (h : freqInContract (opbF32 s) = false) (dc : Duty) :
    execTblBuild wk dc i s = .refused .frequencyOutOfContract := by
  simp [execTblBuild, hwk, hlen, h]

/-- `TBL.ALLOC` is refused on a frequency out of contract, before the cache is looked at (R504). -/
theorem execTblAlloc_of_outOfContract {wk : Wave} (hwk : wk.isSourceKind = true) (h : freqInContract (opbF32 s) = false)
    (dc : Duty) : execTblAlloc wk dc s = .refused .frequencyOutOfContract := by
  simp [execTblAlloc, hwk, h]

/-- `VSO.TICK` with all parameters written: the marks and the stored parameters decide (R576). -/
theorem execVsoTick_of_some {v : Vso} (hv : getVso s i = some v) (hwr : v.wr = 0b11111#5) :
    execVsoTick i s =
      if v.undef = 0#5 ∧ vsoInContract v = true then retOk (putVso s i (vsoTick v).1) (encF32 (vsoTick v).2)
      else .refused .vsoParameterOutOfContract := by
  simp [execVsoTick, hv, vsoWritten, hwr]

/-- `ENV.TICK` with all parameters written: the marks decide (R769). -/
theorem execEnvTick_of_some {e : Env} (he : getEnv s i = some e) (hwr : e.wr = 0b1111#4) (g : Bool) :
    execEnvTick g i s =
      if e.undef = 0#4 then retOk (putEnv s i (envTicked g e)) (encF32 (envOutput g e))
      else .refused .envParameterOutOfContract := by
  simp [execEnvTick, he, envWritten, hwr]

end

/-- Settles O51: each command's guards up to its contract are met, and the contract is not. -/
theorem outOfContractRefused : Obligations.OutOfContractRefused := by
  intro i s wk dc df g
  refine ⟨fun h => ?smp, fun o hi ho hcfg => ⟨fun h => ?oscNext, fun h => ?oscAt⟩, fun h hwk =>
    ⟨execTblAlloc_of_outOfContract hwk h dc, fun hlen => execTblBuild_of_outOfContract hwk hlen h dc⟩,
    fun v hi hv hwr h => ?vsoTick, fun e hi he hwr h => ?envTick⟩
  case smp => rw [exec_smpInstr, sampleAt_of_outOfContract wk df dc h]
  case oscNext =>
    refine (execOscNext_of_some ((getOsc_eq_some ..).2 ⟨hi, ho⟩) hcfg df).trans (if_neg ?_)
    simp [h]
  case oscAt =>
    refine (execOscAt_of_some ((getOsc_eq_some ..).2 ⟨hi, ho⟩) hcfg df).trans (if_neg ?_)
    simp [opaIndex, h]
  case vsoTick =>
    refine (execVsoTick_of_some ((getVso_eq_some ..).2 ⟨hi, hv⟩) hwr).trans (if_neg ?_)
    rintro ⟨hundef, hin⟩
    simp [hundef, hin] at h
  case envTick => exact (execEnvTick_of_some ((getEnv_eq_some ..).2 ⟨hi, he⟩) hwr g).trans (if_neg h)

/-! ## Where a step stops -/

/-- The inputs on which a step is refused, each with the opcode of its command: those for which the spec defines no next state
(R504, R576, R769). -/
inductive RefusedInput (s : State) : Refusal → Prop
  | smp (hopc : opcField s.cmd = 0x10#8) (h : phaseInContract s.cfg (opaIndex s) (opbF32 s) = false) :
      RefusedInput s .frequencyOutOfContract
  | oscNext (o : Osc) (hopc : opcField s.cmd = 0x12#8) (ho : getOsc s (instField s.cmd) = some o) (hcfg : o.cfg = true)
      (h : freqInContract o.freq = false) : RefusedInput s .frequencyOutOfContract
  | oscAt (o : Osc) (hopc : opcField s.cmd = 0x13#8) (ho : getOsc s (instField s.cmd) = some o) (hcfg : o.cfg = true)
      (h : phaseInContract s.cfg (opaIndex s) o.freq = false) : RefusedInput s .frequencyOutOfContract
  | tbl (hopc : opcField s.cmd ∈ [0x18#8, 0x19#8]) (h : freqInContract (opbF32 s) = false) :
      RefusedInput s .frequencyOutOfContract
  | vsoTick (v : Vso) (hopc : opcField s.cmd = 0x25#8) (hv : getVso s (instField s.cmd) = some v) (hwr : v.wr = 0b11111#5)
      (h : v.undef ≠ 0#5 ∨ vsoInContract v = false) : RefusedInput s .vsoParameterOutOfContract
  | envTick (e : Env) (hopc : opcField s.cmd = 0x34#8) (he : getEnv s (instField s.cmd) = some e) (hwr : e.wr = 0b1111#4)
      (h : e.undef ≠ 0#4) : RefusedInput s .envParameterOutOfContract

/-- The answer `x` of a command in state `s` is a next state, or a refusal on one of the listed inputs; it is no fault. -/
def Answers (s : State) (x : Result) : Prop := (∃ t, x = .next t) ∨ ∃ r, x = .refused r ∧ RefusedInput s r

/-- A command that returns or raises an error answers a next state. -/
theorem Answers.finish (s u : State) (st : Status) (w : Word) : Answers s (.next (finish u st w)) := .inl ⟨_, rfl⟩

/-- A refusal on a listed input is an answer. -/
theorem RefusedInput.answers {s : State} {r : Refusal} (h : RefusedInput s r) : Answers s (.refused r) := .inr ⟨r, rfl, h⟩

/-- A handle is that of a private buffer or of a cache entry (20_memory.md R62). -/
theorem handle_eq (h : Handle) :
    h = if isPrivHandle h then privHandle (handleIndex h) else cacheHandle (handleIndex h) := by
  have hlt := h.isLt
  have hidx : handleIndex h < 2 ^ 31 := Nat.mod_lt _ (by decide)
  apply BitVec.eq_of_toNat_eq
  unfold isPrivHandle
  rw [BitVec.msb_eq_decide]
  split
  next hp =>
    rw [privHandle_toNat _ hidx]
    simp only [decide_eq_true_eq] at hp
    unfold handleIndex
    omega
  next hp =>
    rw [cacheHandle_toNat _ hidx]
    simp only [decide_eq_true_eq] at hp
    unfold handleIndex
    omega

section
variable {s : State}

/-- Every table with a valid handle is filled (R65). -/
theorem tableFilled_of_handleValid (hs : TablesOk s) {h : Handle} (hv : handleValid s h = true) : TableFilled s h := by
  obtain ⟨-, -, -, hcache, hpriv⟩ := hs
  have heq := handle_eq h
  rcases (handleValid_iff s h).1 hv with ⟨hp, hlt, hok⟩ | ⟨hp, hlt⟩
  · rw [if_pos hp] at heq
    rw [heq]
    exact (hpriv _ hlt hok).2
  · rw [if_neg (by simp [hp])] at heq
    rw [heq]
    exact hcache _ hlt

/-- A bound reader holds a valid handle and an index inside its table (10_state.md R26). -/
theorem reader_of_bound (hs : Wired s) {l : Lut} (hl : l ∈ s.lut) (hbound : l.bound = true) :
    handleValid s l.tbl = true ∧ l.idx.toNat < s.cfg.sampleRate := by
  obtain ⟨-, -, hreaders, -⟩ := hs
  simpa [hbound] using hreaders l hl

/-- A bound reader finds a word at every index inside its table (R65). -/
theorem memRead_of_bound (hs : Wired s) {l : Lut} (hl : l ∈ s.lut) (hbound : l.bound = true) {n : Nat}
    (hn : n < s.cfg.sampleRate) : ∃ w, memRead s.mem l.tbl (BitVec.ofNat 32 n) = some w := by
  obtain ⟨hvalid, -⟩ := reader_of_bound hs hl hbound
  obtain ⟨-, htables, -⟩ := hs
  obtain ⟨w, hw, -⟩ := (Option.any_eq_true ..).1 (tableFilled_of_handleValid htables hvalid n hn)
  exact ⟨w, hw⟩

/-- `OSC.CFG` is refused on no input (R514, log 10). -/
theorem execOscCfg_answers (wk : Wave) (dc : Duty) (i : BitVec 8) : Answers s (execOscCfg wk dc i s) := by
  unfold execOscCfg
  split
  · split <;> exact .finish ..
  · exact .finish ..

/-- `OSC.NEXT` is refused on a configured frequency out of contract only. -/
theorem execOscNext_answers (hopc : opcField s.cmd = 0x12#8) (df : Fmt) :
    Answers s (execOscNext df (instField s.cmd) s) := by
  unfold execOscNext
  split
  next => exact .finish ..
  next ho =>
    split
    next hcfg =>
      split
      next => exact .finish ..
      next h => exact (RefusedInput.oscNext _ hopc ho hcfg (Bool.eq_false_iff.2 h)).answers
    next => exact .finish ..

/-- `OSC.AT` is refused on a configured frequency out of contract at the index only. -/
theorem execOscAt_answers (hopc : opcField s.cmd = 0x13#8) (df : Fmt) :
    Answers s (execOscAt df (instField s.cmd) s) := by
  unfold execOscAt
  split
  next => exact .finish ..
  next ho =>
    split
    next hcfg =>
      split
      next => exact .finish ..
      next h => exact (RefusedInput.oscAt _ hopc ho hcfg (Bool.eq_false_iff.2 h)).answers
    next => exact .finish ..

/-- A `SMP` command is refused out of contract only. -/
theorem sampleAt_answers (hopc : opcField s.cmd = 0x10#8) (wk : Wave) (df : Fmt) (dc : Duty) :
    Answers s (sampleAt wk df dc s) := by
  unfold sampleAt
  split
  next => exact .finish ..
  next h => exact (RefusedInput.smp hopc (Bool.eq_false_iff.2 h)).answers

/-- `TBL.BUILD` is refused on a frequency out of contract only. -/
theorem execTblBuild_answers (hopc : opcField s.cmd = 0x18#8) (wk : Wave) (dc : Duty) (j : BitVec 8) :
    Answers s (execTblBuild wk dc j s) := by
  unfold execTblBuild
  split
  next =>
    split
    next => exact .finish ..
    next =>
      split
      next =>
        split
        next => exact .finish ..
        next h => exact (RefusedInput.tbl (by simp [hopc]) (Bool.eq_false_iff.2 h)).answers
      next => exact .finish ..
  next => exact .finish ..

/-- `TBL.ALLOC` is refused on a frequency out of contract only. -/
theorem execTblAlloc_answers (hopc : opcField s.cmd = 0x19#8) (wk : Wave) (dc : Duty) :
    Answers s (execTblAlloc wk dc s) := by
  unfold execTblAlloc
  split
  next =>
    split
    next =>
      split
      next => exact .finish ..
      next => split <;> exact .finish ..
    next h => exact (RefusedInput.tbl (by simp [hopc]) (Bool.eq_false_iff.2 h)).answers
  next => exact .finish ..

/-- `LUT.BIND` is refused on no input. -/
theorem execLutBind_answers (i : BitVec 8) : Answers s (execLutBind i s) := by
  unfold execLutBind
  split
  · exact .finish ..
  · split <;> exact .finish ..

/-- `LUT.NEXT` is refused on no input, and does not fault: the reader's index is inside its table (R65). -/
theorem execLutNext_answers (hs : Wired s) (i : BitVec 8) : Answers s (execLutNext i s) := by
  unfold execLutNext
  split
  next => exact .finish ..
  next l hl =>
    split
    next hbound =>
      obtain ⟨-, hidx⟩ := reader_of_bound hs (mem_of_getLut hl) hbound
      obtain ⟨w, hw⟩ := memRead_of_bound hs (mem_of_getLut hl) hbound hidx
      rw [BitVec.ofNat_toNat, BitVec.setWidth_eq] at hw
      rw [hw]
      exact .finish ..
    next => exact .finish ..

/-- `LUT.AT` is refused on no input, and does not fault: the index is taken modulo the table's length (R552). -/
theorem execLutAt_answers (hs : Wired s) (i : BitVec 8) : Answers s (execLutAt i s) := by
  unfold execLutAt
  split
  next => exact .finish ..
  next l hl =>
    split
    next hbound =>
      have ⟨⟨⟨hrate, _⟩, _⟩, _⟩ := hs
      obtain ⟨w, hw⟩ := memRead_of_bound hs (mem_of_getLut hl) hbound (Nat.mod_lt (opaIndex s) hrate)
      rw [hw]
      exact .finish ..
    next => exact .finish ..

/-- A setter of a variable-shape oscillator is refused on no input. -/
theorem vsoSet_answers (i : BitVec 8) (k : Nat) (ok : Bool) (f : Vso → Vso) : Answers s (vsoSet i k ok f s) :=
  .inl (vsoSet_completes i k ok f s)

/-- A setter of an envelope is refused on no input. -/
theorem envSet_answers (i : BitVec 8) (k n : Nat) (ok : Bool) (good bad : Env → Env) :
    Answers s (envSet i k n ok good bad s) := .inl (envSet_completes i k n ok good bad s)

/-- `VSO.TICK` is refused once a parameter or an earlier operand is out of contract. -/
theorem execVsoTick_answers (hopc : opcField s.cmd = 0x25#8) : Answers s (execVsoTick (instField s.cmd) s) := by
  unfold execVsoTick
  split
  next => exact .finish ..
  next v hv =>
    split
    next hwr =>
      split
      next => exact .finish ..
      next h =>
        have hout : v.undef ≠ 0#5 ∨ vsoInContract v = false := by
          rwa [Decidable.not_and_iff_or_not, Bool.not_eq_true] at h
        exact (RefusedInput.vsoTick v hopc hv (by simpa [vsoWritten] using hwr) hout).answers
    next => exact .finish ..

/-- `ENV.TICK` is refused once an earlier operand is out of contract. -/
theorem execEnvTick_answers (hopc : opcField s.cmd = 0x34#8) (g : Bool) :
    Answers s (execEnvTick g (instField s.cmd) s) := by
  unfold execEnvTick
  split
  next => exact .finish ..
  next e he =>
    split
    next hwr =>
      split
      next => exact .finish ..
      next h => exact (RefusedInput.envTick e hopc he (by simpa [envWritten] using hwr) h).answers
    next => exact .finish ..

/-- `ENV.STAT` is refused on no input. -/
theorem execEnvStat_answers (i : BitVec 8) : Answers s (execEnvStat i s) := by
  unfold execEnvStat
  split <;> exact .finish ..

/-- Each instruction answers from a state that keeps the block's invariant. -/
theorem exec_answers (hs : Wired s) {i : Instr} (hn : Names s.cmd i) : Answers s (exec i s) := by
  cases hn with
  | cvt _ sf df =>
    rw [exec_cvtInstr]
    exact .finish ..
  | smp hopc wk df dc =>
    rw [exec_smpInstr]
    exact sampleAt_answers hopc wk df dc
  | oscCfg _ wk dc => exact execOscCfg_answers wk dc _
  | oscNext hopc df => exact execOscNext_answers hopc df
  | oscAt hopc df => exact execOscAt_answers hopc df
  | tblBuild hopc wk dc => exact execTblBuild_answers hopc wk dc _
  | tblAlloc hopc wk dc => exact execTblAlloc_answers hopc wk dc
  | lutBind _ => exact execLutBind_answers _
  | lutNext _ => exact execLutNext_answers hs _
  | lutAt _ => exact execLutAt_answers hs _
  | vsoSetMaster _ => exact vsoSet_answers ..
  | vsoSetSlave _ => exact vsoSet_answers ..
  | vsoSetPw _ => exact vsoSet_answers ..
  | vsoSetShape _ => exact vsoSet_answers ..
  | vsoSetSync _ g => exact vsoSet_answers ..
  | vsoTick hopc => exact execVsoTick_answers hopc
  | envSetAttack _ => exact envSet_answers ..
  | envSetDecay _ => exact envSet_answers ..
  | envSetRelease _ => exact envSet_answers ..
  | envSetSustain _ => exact envSet_answers ..
  | envTick hopc g => exact execEnvTick_answers hopc g
  | envStat _ => exact execEnvStat_answers _

/-- A step answers, and the reset event and a refused word answer a next state. -/
theorem step_answers (hs : Wired s) : (∃ t, step s = .next t) ∨ (s.rst = false ∧ Answers s (step s)) := by
  rcases step_cases s with ⟨-, hstep⟩ | ⟨-, -, hstep⟩ | ⟨hrst, i, hdec, hstep⟩
  · exact .inl ⟨_, hstep⟩
  · exact .inl ⟨_, hstep⟩
  · rw [hstep]
    exact .inr ⟨hrst, exec_answers hs (decode_names _ _ hdec)⟩

end

/-- Settles O56: a step answers a next state or refuses a listed input; each listed input is one of the statement's. -/
theorem stepStopsOnlyOutOfContract : Obligations.StepStopsOnlyOutOfContract := by
  intro s hs
  rcases step_answers hs with ⟨t, ht⟩ | ⟨hrst, ⟨t, ht⟩ | ⟨r, hr, hinput⟩⟩
  · simp [ht]
  · simp [ht]
  · rw [hr]
    refine ⟨fun f hf => (by cases hf), fun r' hr' => ⟨hrst, ?_⟩⟩
    cases hr'
    cases hinput with
    | smp hopc h => exact .inl ⟨rfl, .inl ⟨hopc, h⟩⟩
    | oscNext o hopc ho hcfg h => exact .inl ⟨rfl, .inr (.inl ⟨hopc, o, ((getOsc_eq_some ..).1 ho).2, hcfg, h⟩)⟩
    | oscAt o hopc ho hcfg h => exact .inl ⟨rfl, .inr (.inr (.inl ⟨hopc, o, ((getOsc_eq_some ..).1 ho).2, hcfg, h⟩))⟩
    | tbl hopc h => exact .inl ⟨rfl, .inr (.inr (.inr ⟨hopc, h⟩))⟩
    | vsoTick v hopc hv hwr h => exact .inr (.inl ⟨rfl, hopc, v, ((getVso_eq_some ..).1 hv).2, hwr, h⟩)
    | envTick e hopc he hwr h => exact .inr (.inr ⟨rfl, hopc, e, ((getEnv_eq_some ..).1 he).2, hwr, h⟩)

end Sys2Proof.Machine
end

section
/-! The table builder and the table cache (47_table_lut.md R541 to R547, R553): what a build leaves in the table memory, the ends of
`TBL.BUILD` and `TBL.ALLOC` in contract, and what the cache keeps between resets. -/

namespace Sys2Proof.Machine

/-! ## What the cache keeps -/

section
variable {s u : State}

/-- `CNT` does not fall, and `TBL.ALLOC` raises it only while there is room (R546). -/
theorem Writes.cnt_bounds (h : Writes s u) (hcnt : s.cnt ≤ s.cfg.cacheCap) : s.cnt ≤ u.cnt ∧ u.cnt ≤ s.cfg.cacheCap := by
  cases h with
  | tblAlloc _ _ _ _ hroom => exact ⟨Nat.le_succ _, Nat.lt_of_le_of_ne hcnt hroom⟩
  | _ => exact ⟨le_rfl, hcnt⟩

/-- The tag of a valid entry is not written again: `TBL.ALLOC` writes at `CNT` only. -/
theorem Writes.tag_kept (h : Writes s u) {e : Nat} (he : e < s.cnt) : u.tags[e]? = s.tags[e]? := by
  cases h with
  | tblAlloc => exact List.getElem?_set_ne he.ne'
  | _ => rfl

/-- The words of a table fit the index of a handle's entries. -/
theorem tableWords_length_le {c : Params} (hc : c.wf) (wk : Wave) (f : F32) (dc : Duty) :
    (tableWords c wk f dc).length ≤ 2 ^ 32 := by
  obtain ⟨-, hrate, -⟩ := hc
  rw [tableWords_length]
  exact hrate.le

/-- The table of a valid entry is not filled again: the two `TBL` commands fill a private buffer or the table of entry `CNT`,
whose handles are others (R66). -/
theorem Writes.cacheTable_kept (h : Writes s u) (hc : s.cfg.wf) (hcnt : s.cnt ≤ s.cfg.cacheCap) {e : Nat}
    (he : e < s.cnt) (n : BitVec 32) : memRead u.mem (cacheHandle e) n = memRead s.mem (cacheHandle e) n := by
  have hlen := tableWords_length_le hc
  obtain ⟨-, -, hcap, -⟩ := hc
  cases h with
  | tblBuild wk dc =>
    have hj := (instField s.cmd).isLt
    exact memRead_memFill_other _ _ _ _ _ (hlen ..) (cacheHandle_ne_privHandle _ _ (by omega) (by omega))
  | tblAlloc wk dc =>
    refine memRead_memFill_other _ _ _ _ _ (hlen ..) fun heq => he.ne ?_
    exact cacheHandle_inj _ _ (by omega) (by omega) heq
  | _ => rfl

end

/-- Settles O31: a completing command writes one of the things `Writes` lists, and each of them keeps `CNT`, the valid entries
and the valid handles. -/
theorem cacheNeverForgets : Obligations.CacheNeverForgets := by
  intro s t hsizes hcnt hrst hstep
  obtain ⟨u, st, w, hw, rfl⟩ := step_ends s t hrst hstep
  obtain ⟨hgrow, hcap⟩ := hw.cnt_bounds hcnt
  exact ⟨hgrow, hcap, fun e he => ⟨hw.tag_kept he, hw.cacheTable_kept hsizes.1 hcnt he⟩, fun _ => hw.handle_stays_valid⟩

/-! ## What a build leaves in a table -/

/-- Entry `n` of a table built for a kind, a duty and a frequency: the fast path of R543 for the sine, the word of `SMP` of R542
for the other kinds. -/
def tableEntry (c : Params) (wk : Wave) (dc : Duty) (f : F32) (n : Nat) : Word :=
  if wk = .sin then
    if n = 0 then outStage c.tableFmt zero32 else outStage c.tableFmt (sin32 (mul32 (rn32 false n 1) (sineStep c f)))
  else smpWord c wk c.tableFmt dc n f

/-- The entries of a table that is not a sine's. -/
theorem tableEntry_of_ne_sin (c : Params) {wk : Wave} (dc : Duty) (f : F32) (n : Nat) (h : wk ≠ .sin) :
    tableEntry c wk dc f n = smpWord c wk c.tableFmt dc n f := if_neg h

/-- The words of a table are its entries in order (R540). -/
theorem tableWords_getElem?_eq_tableEntry (c : Params) (wk : Wave) (dc : Duty) (f : F32) {n : Nat} (hn : n < c.sampleRate) :
    (tableWords c wk f dc)[n]? = some (tableEntry c wk dc f n) := by
  by_cases hwk : wk = .sin
  · subst hwk
    rw [tableWords_sin_getElem? c f dc n hn, tableEntry, if_pos rfl]
    by_cases h0 : n = 0
    · rw [if_pos h0, h0, sineEntry_zero]
    · rw [if_neg h0, sineEntry, sineAngle, if_neg h0]
  · rw [tableWords_getElem? c wk f dc n hwk hn, tableEntry_of_ne_sin c dc f n hwk]

/-- An index below the sample rate is read back from its 32 bits. -/
theorem toNat_index {c : Params} (hc : c.wf) {n : Nat} (hn : n < c.sampleRate) : (BitVec.ofNat 32 n).toNat = n := by
  obtain ⟨-, hrate, -⟩ := hc
  rw [BitVec.toNat_ofNat, Nat.mod_eq_of_lt (hn.trans hrate)]

/-- A table reads back entry by entry as it was built. -/
theorem memRead_built {c : Params} (hc : c.wf) (m : Memory) (h : Handle) (wk : Wave) (dc : Duty) (f : F32) {n : Nat}
    (hn : n < c.sampleRate) :
    memRead (memFill m h (tableWords c wk f dc)) h (BitVec.ofNat 32 n) = some (tableEntry c wk dc f n) := by
  rw [memRead_memFill_same, toNat_index hc hn, tableWords_getElem?_eq_tableEntry c wk dc f hn]

/-- A build leaves every other table alone (R63). -/
theorem memRead_built_other {c : Params} (hc : c.wf) (m : Memory) {h h' : Handle} (wk : Wave) (dc : Duty) (f : F32)
    (n : BitVec 32) (hne : h' ≠ h) : memRead (memFill m h (tableWords c wk f dc)) h' n = memRead m h' n :=
  memRead_memFill_other _ _ _ _ _ (tableWords_length_le hc ..) hne

/-! ## The handles as results (R62) -/

/-- The handle of a private buffer as a word: bit 31 and the buffer's number. -/
theorem privHandle_setWidth (j : BitVec 8) : (privHandle j.toNat).setWidth 64 = 0x80000000#64 ||| j.setWidth 64 := by
  have hj : j.toNat < 2 ^ 31 := j.isLt.trans (by decide)
  have hor : 2 ^ 31 + j.toNat = 2 ^ 31 ||| j.toNat := by simpa using Nat.two_pow_add_eq_or_of_lt hj 1
  apply BitVec.eq_of_toNat_eq
  rw [BitVec.toNat_setWidth, privHandle_toNat _ hj, BitVec.toNat_or, BitVec.toNat_setWidth,
    Nat.mod_eq_of_lt (show 2 ^ 31 + j.toNat < 2 ^ 64 by omega), Nat.mod_eq_of_lt (show j.toNat < 2 ^ 64 by omega), hor]
  rfl

/-- The handle of a cache entry as a word: the entry's number. -/
theorem cacheHandle_setWidth {e : Nat} (he : e < 2 ^ 31) : (cacheHandle e).setWidth 64 = BitVec.ofNat 64 e := by
  apply BitVec.eq_of_toNat_eq
  rw [BitVec.toNat_setWidth, cacheHandle_toNat e he, BitVec.toNat_ofNat]

/-! ## The commands in contract -/

section
variable {s : State} {wk : Wave} (hwk : wk.isSourceKind = true) (hf : freqInContract (opbF32 s) = true)
include hwk hf

/-- `TBL.BUILD` in contract into a buffer of the right length builds the table and sets the buffer's flag (R541). -/
theorem execTblBuild_of_inContract {j : BitVec 8} (hlen : s.cfg.privLen[j.toNat]? = some s.cfg.sampleRate) (dc : Duty) :
    execTblBuild wk dc j s =
      retOk (markPrivOk (fillTable s (privHandle j.toNat) (tableWords s.cfg wk (opbF32 s) dc)) j.toNat)
        ((privHandle j.toNat).setWidth 64) := by
  simp [execTblBuild, hwk, hlen, hf]

/-- `TBL.ALLOC` in contract returns the handle of the entry the scan finds (R546). -/
theorem execTblAlloc_of_hit {dc : Duty} {e : Nat} (he : findEntry s wk dc (opbF32 s) = some e) :
    execTblAlloc wk dc s = retOk s ((cacheHandle e).setWidth 64) := by
  simp [execTblAlloc, hwk, hf, he]

/-- `TBL.ALLOC` in contract on a miss with room builds the table of entry `CNT` and inserts its tag (R546). -/
theorem execTblAlloc_of_miss {dc : Duty} (hmiss : findEntry s wk dc (opbF32 s) = none) (hroom : s.cnt ≠ s.cfg.cacheCap) :
    execTblAlloc wk dc s =
      retOk (pushTag (fillTable s (cacheHandle s.cnt) (tableWords s.cfg wk (opbF32 s) dc))
        { kind := wk, duty := dc, freq := opbF32 s }) ((cacheHandle s.cnt).setWidth 64) := by
  simp [execTblAlloc, hwk, hf, hmiss, hroom]

/-- `TBL.ALLOC` in contract on a miss in a full cache is `TableFull` (R705). -/
theorem execTblAlloc_of_full {dc : Duty} (hmiss : findEntry s wk dc (opbF32 s) = none) (hfull : s.cnt = s.cfg.cacheCap) :
    execTblAlloc wk dc s = raise s .tableFull 0#64 := by
  simp [execTblAlloc, hwk, hf, hmiss, hfull]

end

/-- The flag of a configured buffer reads as set once it is set: every buffer has its flag (R32). -/
theorem privOk_set_self {s : State} (hs : SizesOk s) {j n : Nat} (hlen : s.cfg.privLen[j]? = some n) :
    (s.privOk.set j true)[j]? = some true := by
  obtain ⟨-, -, -, -, -, -, hpriv⟩ := hs
  have hj : j < s.cfg.nPriv := (List.getElem?_eq_some_iff.1 hlen).1
  rw [List.getElem?_set_self (hpriv ▸ hj)]

/-- Settles O26: the next state is that of `execTblBuild_of_inContract`; the table reads back as built, and the others are not
touched. -/
theorem tblBuildFills : Obligations.TblBuildFills := by
  rintro wk dc j s f g hs hwk hlen rfl hf rfl
  exact ⟨_, execTblBuild_of_inContract hwk hf hlen dc, rfl, privHandle_setWidth j, privOk_set_self hs hlen,
    fun k hk => List.getElem?_set_ne hk.symm, fun n hn => memRead_built hs.1 s.mem _ wk dc _ hn,
    fun h n hne => memRead_built_other hs.1 s.mem wk dc _ n hne⟩

/-- Settles O29: a hit, a miss with room and a miss in a full cache are what the scan and `CNT` decide. -/
theorem tblAllocResult : Obligations.TblAllocResult := by
  rintro wk dc s f g hs hcnt hwk rfl hf rfl
  have hcap : s.cfg.cacheCap < 2 ^ 31 := by
    obtain ⟨⟨-, -, hcap, -⟩, -⟩ := hs
    omega
  refine ⟨fun e he tag htag hmatch hlow => ?hit, fun hmiss hroom => ?miss, fun hmiss hfull => ?full⟩
  case hit =>
    rw [← cacheHandle_setWidth (show e < 2 ^ 31 by omega)]
    exact execTblAlloc_of_hit hwk hf ((findEntry_eq_some ..).2 ⟨he, ⟨tag, htag, hmatch⟩, hlow⟩)
  case miss =>
    rw [← cacheHandle_setWidth (show s.cnt < 2 ^ 31 by omega)]
    exact ⟨_, execTblAlloc_of_miss hwk hf ((findEntry_eq_none ..).2 hmiss) hroom.ne, rfl,
      fun n hn => memRead_built hs.1 s.mem _ wk dc _ hn, fun h n hne => memRead_built_other hs.1 s.mem wk dc _ n hne⟩
  case full => exact execTblAlloc_of_full hwk hf ((findEntry_eq_none ..).2 hmiss) hfull

/-! ## A request asked again -/

/-- A finite frequency equals itself for the cache (R545). -/
theorem freqEq_self {f : F32} (hf : isFin32 f = true) : freqEq f f = true := by
  have hsub : sub32 f f = zero32 := by
    rw [sub32, add32_exact_zero f (neg32 f) hf (by rwa [isFin32_neg32]) (by rw [int32_neg32]; omega), sign32_neg32]
    simp [zero32]
  rw [freqEq, hsub]
  decide

/-- A request matches the tag it would insert (R547). -/
theorem tagMatches_self (wk : Wave) (dc : Duty) {f : F32} (hf : isFin32 f = true) :
    tagMatches wk dc f { kind := wk, duty := dc, freq := f } = true := by
  simp [tagMatches, freqEq_self hf]

/-- What a successful `TBL.ALLOC` leaves: the scan of the new state finds the entry whose handle was returned, and the valid
entries of the old state have kept their tags. -/
structure Granted (wk : Wave) (dc : Duty) (s t : State) (e : Nat) : Prop where
  kind : wk.isSourceKind = true
  contract : freqInContract (opbF32 t) = true
  sizes : SizesOk t
  cnt_le : t.cnt ≤ t.cfg.cacheCap
  found : findEntry t wk dc (opbF32 t) = some e
  res : t.res = (cacheHandle e).setWidth 64
  tags : ∀ k < s.cnt, t.tags[k]? = s.tags[k]?

/-- After a miss that inserts its tag the scan finds the new entry: none below it matches, and its own tag does. -/
theorem findEntry_pushTag {s : State} (hs : SizesOk s) (hroom : s.cnt < s.cfg.cacheCap) {wk : Wave} {dc : Duty} {f : F32}
    (hf : isFin32 f = true) (hmiss : findEntry s wk dc f = none) :
    findEntry (pushTag s { kind := wk, duty := dc, freq := f }) wk dc f = some s.cnt := by
  obtain ⟨-, -, -, -, -, htags, -⟩ := hs
  refine (findEntry_eq_some ..).2 ⟨Nat.lt_succ_self _, ⟨_, List.getElem?_set_self (htags ▸ hroom), tagMatches_self wk dc hf⟩,
    fun k hk t ht => ?_⟩
  rw [pushTag_tags, List.getElem?_set_ne hk.ne'] at ht
  exact (findEntry_eq_none ..).1 hmiss k hk t ht

/-- A `TBL.ALLOC` that ends in `ST = 0` is a hit or a miss with room, and either is granted. -/
theorem granted_of_execTblAlloc {wk : Wave} {dc : Duty} {s t : State} (hs : SizesOk s) (hcnt : s.cnt ≤ s.cfg.cacheCap)
    (h : execTblAlloc wk dc s = .next t) (hok : t.st = .ok) : ∃ e, Granted wk dc s t e := by
  rcases execTblAlloc_next wk dc s t h with rfl | ⟨hwk, hf, ⟨e, he, rfl⟩ | ⟨-, -, rfl⟩ | ⟨hmiss, hroom, rfl⟩⟩
  · cases hok
  · exact ⟨e, hwk, hf, hs, hcnt, he, rfl, fun _ _ => rfl⟩
  · cases hok
  · have hlt := Nat.lt_of_le_of_ne hcnt hroom
    have hfin : isFin32 (opbF32 s) = true := ((freqInContract_iff _).1 hf).1
    refine ⟨s.cnt, hwk, hf, ?_, hlt, findEntry_pushTag hs hlt hfin hmiss, rfl, fun k hk => List.getElem?_set_ne hk.ne'⟩
    simpa [SizesOk] using hs

/-- The same request again is a hit on the entry it was granted, and ends with the status and result that are there (R553). -/
theorem Granted.repeated {wk : Wave} {dc : Duty} {s t : State} {e : Nat} (h : Granted wk dc s t e) (hok : t.st = .ok) :
    execTblAlloc wk dc t = .next t := by
  rw [execTblAlloc_of_hit h.kind h.contract h.found, ← h.res, retOk, ← hok, finish_self]

/-- The tag of the entry granted is of the duty asked for. -/
theorem Granted.tag {wk : Wave} {dc : Duty} {s t : State} {e : Nat} (h : Granted wk dc s t e) :
    e < t.cnt ∧ ∃ tag, t.tags[e]? = some tag ∧ tag.duty = dc := by
  obtain ⟨he, ⟨tag, htag, hmatch⟩, -⟩ := (findEntry_eq_some ..).1 h.found
  simp only [tagMatches, Bool.and_eq_true, beq_iff_eq] at hmatch
  obtain ⟨⟨-, hduty⟩, -⟩ := hmatch
  exact ⟨he, tag, htag, hduty⟩

/-- Two requests of different duties are granted different entries: the first one's tag is still there (R553). -/
theorem Granted.ne_of_duty_ne {wk : Wave} {dc dc' : Duty} {s t u : State} {e e' : Nat} (h : Granted wk dc s t e)
    (h' : Granted wk dc' t u e') (hne : dc' ≠ dc) : e' ≠ e := by
  rintro rfl
  obtain ⟨he, tag, htag, hduty⟩ := h.tag
  obtain ⟨-, tag', htag', hduty'⟩ := h'.tag
  rw [h'.tags _ he, htag] at htag'
  cases htag'
  exact hne (hduty'.symm.trans hduty)

/-- The entry granted is below 2^31, so that its handle as a word is its number (R62). -/
theorem Granted.res_eq {wk : Wave} {dc : Duty} {s t : State} {e : Nat} (h : Granted wk dc s t e) :
    e < 2 ^ 31 ∧ t.res = BitVec.ofNat 64 e := by
  obtain ⟨he, -⟩ := h.tag
  obtain ⟨⟨-, -, hcap, -⟩, -⟩ := h.sizes
  have hcnt := h.cnt_le
  have hlt : e < 2 ^ 31 := by omega
  exact ⟨hlt, h.res.trans (cacheHandle_setWidth hlt)⟩

/-- Settles O30: both requests are granted, and granted entries of different duties have different handles. -/
theorem cacheRepeatsAndSeparates : Obligations.CacheRepeatsAndSeparates := by
  intro wk dc s t hs hcnt h hok
  obtain ⟨e, he⟩ := granted_of_execTblAlloc hs hcnt h hok
  refine ⟨he.repeated hok, fun dc' u hne hu huok heq => ?_⟩
  obtain ⟨e', he'⟩ := granted_of_execTblAlloc he.sizes he.cnt_le hu huok
  obtain ⟨hlt, hres⟩ := he.res_eq
  obtain ⟨hlt', hres'⟩ := he'.res_eq
  have hnum := congrArg BitVec.toNat heq
  rw [hres, hres', BitVec.toNat_ofNat, BitVec.toNat_ofNat] at hnum
  exact he.ne_of_duty_ne he' hne (by omega)

end Sys2Proof.Machine
end

section
/-! The lookup-table readers (47_table_lut.md R549 to R552, R554): binding a built table, reading it, walking through it, and reading
back what was built. -/

namespace Sys2Proof.Machine

/-! ## The commands on a bound reader -/

section
variable {s : State} {i : BitVec 8} {l : Lut}

/-- `LUT.BIND` of a valid handle starts the reader at index 0 (R549). -/
theorem execLutBind_of_valid (hl : getLut s i = some l) (hh : handleValid s (opaHandle s) = true) :
    execLutBind i s = retOk (putLut s i { bound := true, tbl := opaHandle s, idx := 0#32 }) 0#64 := by
  simp [execLutBind, hl, hh]

/-- `LUT.NEXT` on a bound reader ends with the entry at its index (R551). -/
theorem execLutNext_of_some (hl : getLut s i = some l) (hbound : l.bound = true) {w : Word}
    (hw : memRead s.mem l.tbl l.idx = some w) :
    execLutNext i s =
      retOk (putLut s i { l with idx := BitVec.ofNat 32 ((l.idx.toNat + 1) % s.cfg.sampleRate) }) w := by
  simp [execLutNext, hl, hbound, hw]

/-- `LUT.AT` on a bound reader ends with the entry at the operand modulo the length (R552). -/
theorem execLutAt_of_some (hl : getLut s i = some l) (hbound : l.bound = true) {w : Word}
    (hw : memRead s.mem l.tbl (BitVec.ofNat 32 (opaIndex s % s.cfg.sampleRate)) = some w) :
    execLutAt i s = retOk s w := by
  simp [execLutAt, hl, hbound, hw]

/-- A bound reader finds a canonical word at every index inside its table (20_memory.md R61, R65). -/
theorem canonical_memRead_of_bound (hs : Wired s) (hl : l ∈ s.lut) (hbound : l.bound = true) {n : Nat}
    (hn : n < s.cfg.sampleRate) :
    ∃ w, memRead s.mem l.tbl (BitVec.ofNat 32 n) = some w ∧ canonical s.cfg.tableFmt w = w := by
  obtain ⟨hvalid, -⟩ := reader_of_bound hs hl hbound
  obtain ⟨-, htables, -⟩ := hs
  simpa [Option.any_eq_true] using tableFilled_of_handleValid htables hvalid n hn

end

/-- Settles O32: the two kinds of handle named are the two kinds of valid handle. -/
theorem lutBind : Obligations.LutBind := by
  rintro i s h hi hlen rfl hkind
  have hl : getLut s i = some s.lut[i.toNat] := (getLut_eq_some ..).2 ⟨hi, List.getElem?_eq_getElem hlen⟩
  exact execLutBind_of_valid hl ((handleValid_iff ..).2 hkind.symm)

/-- Settles O33: both indices are inside the table, where a bound reader finds a canonical word. -/
theorem lutReads : Obligations.LutReads := by
  intro i s l hs hi hl hbound
  have hget : getLut s i = some l := (getLut_eq_some ..).2 ⟨hi, hl⟩
  have hmem := List.mem_of_getElem? hl
  have ⟨⟨⟨hrate, _⟩, _⟩, _⟩ := hs
  refine ⟨?next, ?atOperand⟩
  case next =>
    obtain ⟨-, hidx⟩ := reader_of_bound hs hmem hbound
    obtain ⟨w, hw, hcanon⟩ := canonical_memRead_of_bound hs hmem hbound hidx
    rw [BitVec.ofNat_toNat, BitVec.setWidth_eq] at hw
    exact ⟨w, hw, hcanon, execLutNext_of_some hget hbound hw⟩
  case atOperand =>
    obtain ⟨w, hw, hcanon⟩ := canonical_memRead_of_bound hs hmem hbound (Nat.mod_lt s.opa.toNat hrate)
    exact ⟨w, hw, hcanon, execLutAt_of_some hget hbound hw⟩

/-! ## Walking through a table -/

/-- The state `t` is `s` after `n` presentations of `LUT.NEXT` to reader `i`, which held `l` at index 0: the tables are as they
were, and only the reader's index has moved. -/
structure Walked (i : BitVec 8) (l : Lut) (n : Nat) (s t : State) : Prop where
  cfg : t.cfg = s.cfg
  mem : t.mem = s.mem
  reader : getLut t i = some { l with idx := BitVec.ofNat 32 (n % s.cfg.sampleRate) }

/-- One more `LUT.NEXT` returns the entry the walk has come to, and moves on by one, modulo the length (R551). -/
theorem Walked.next {i : BitVec 8} {l : Lut} {n : Nat} {s t : State} (h : Walked i l n s t) (hs : Wired s) (hl : l ∈ s.lut)
    (hbound : l.bound = true) :
    ∃ u, exec (.lutNext i) t = .next u ∧ u.st = .ok ∧
      memRead s.mem l.tbl (BitVec.ofNat 32 (n % s.cfg.sampleRate)) = some u.res ∧ Walked i l (n + 1) s u := by
  have hwf := hs.1.1
  have hmod := Nat.mod_lt n hwf.1
  obtain ⟨w, hw, -⟩ := canonical_memRead_of_bound hs hl hbound hmod
  have hexec := execLutNext_of_some h.reader hbound (h.mem ▸ hw)
  rw [toNat_index hwf hmod, h.cfg, Nat.mod_add_mod] at hexec
  exact ⟨_, hexec, rfl, hw, h.cfg, h.mem, getLut_put_same _ _ _ _ h.reader⟩

/-- Every number of presentations completes (R554). -/
theorem repeatExec_lutNext_walked {i : BitVec 8} {l : Lut} {s : State} (hs : Wired s) (hi : i.toNat < s.cfg.nLut)
    (hl : s.lut[i.toNat]? = some l) (hbound : l.bound = true) (hidx : l.idx = 0#32) (n : Nat) :
    ∃ t, repeatExec (.lutNext i) n s = .next t ∧ Walked i l n s t := by
  induction n with
  | zero =>
    have hstart : l = { l with idx := BitVec.ofNat 32 (0 % s.cfg.sampleRate) } := by rw [Nat.zero_mod, ← hidx]
    exact ⟨s, rfl, rfl, rfl, ((getLut_eq_some ..).2 ⟨hi, hl⟩).trans (congrArg some hstart)⟩
  | succ n ih =>
    obtain ⟨t, hrun, hwalk⟩ := ih
    obtain ⟨u, hnext, -, -, hwalk'⟩ := hwalk.next hs (List.mem_of_getElem? hl) hbound
    exact ⟨u, by rw [repeatExec, hrun]; exact hnext, hwalk'⟩

/-- Settles O34: `k` presentations walk to `k mod SAMPLE_RATE`, and the last one returns the entry there. -/
theorem lutNextWalks : Obligations.LutNextWalks := by
  intro i s l hs hi hl hbound hidx k
  obtain ⟨t, hrun, hwalk⟩ := repeatExec_lutNext_walked hs hi hl hbound hidx k
  obtain ⟨u, hnext, hst, hres, hwalk'⟩ := hwalk.next hs (List.mem_of_getElem? hl) hbound
  exact ⟨u, by rw [repeatExec, hrun]; exact hnext, hst, hres, ((getLut_eq_some ..).1 hwalk'.reader).2⟩

/-! ## Reading back what was built -/

/-- A handle is read back from the result port it is returned on (R62). -/
theorem opaHandle_of_setWidth (s : State) (h : Handle) : opaHandle { s with opa := h.setWidth 64 } = h := by
  simp [opaHandle]

/-- The handle of a private buffer whose flag is set is valid (R62). -/
theorem handleValid_privHandle {s : State} {j : Nat} (hj : j < 2 ^ 31) (hpriv : j < s.cfg.nPriv)
    (hok : s.privOk[j]? = some true) : handleValid s (privHandle j) = true := by
  have hmsb : isPrivHandle (privHandle j) = true := by
    rw [isPrivHandle, BitVec.msb_eq_decide, privHandle_toNat j hj]
    simp
  have hidx : handleIndex (privHandle j) = j := by
    rw [handleIndex, privHandle_toNat j hj]
    omega
  refine (handleValid_iff ..).2 (.inl ⟨hmsb, ?_⟩)
  rw [hidx]
  exact ⟨hpriv, hok⟩

/-- Ending a command writes no reader. -/
theorem getLut_finish (s : State) (st : Status) (w : Word) (i : BitVec 8) : getLut (finish s st w) i = getLut s i := rfl

/-- The index operand of `LUT.AT`, presented on a bound reader (R552). -/
theorem execLutAt_of_opa {s : State} {i : BitVec 8} {l : Lut} (hl : getLut s i = some l) (hbound : l.bound = true)
    {k w : Word} (hw : memRead s.mem l.tbl (BitVec.ofNat 32 (k.toNat % s.cfg.sampleRate)) = some w) :
    execLutAt i { s with opa := k } = retOk { s with opa := k } w := by
  have hl' : getLut { s with opa := k } i = some l := hl
  exact execLutAt_of_some hl' hbound hw

/-- After `LUT.BIND` of a valid handle, `LUT.AT` at any index reads the table that the handle names (R549, R552). -/
theorem execLutBind_then_at {s : State} {i : BitVec 8} {l : Lut} (hl : getLut s i = some l)
    (hh : handleValid s (opaHandle s) = true) :
    ∃ t, execLutBind i s = .next t ∧ t.st = .ok ∧
      ∀ k w : Word, memRead s.mem (opaHandle s) (BitVec.ofNat 32 (k.toNat % s.cfg.sampleRate)) = some w →
        execLutAt i { t with opa := k } = retOk { t with opa := k } w := by
  have hbound := getLut_put_same s i { bound := true, tbl := opaHandle s, idx := 0#32 } l hl
  rw [← getLut_finish _ .ok 0#64] at hbound
  exact ⟨_, execLutBind_of_valid hl hh, rfl, fun k w hw => execLutAt_of_opa hbound rfl hw⟩

/-- What `TBL.BUILD` leaves for the readers: its result is a valid handle, whose table holds the entries asked for. -/
structure Built (wk : Wave) (dc : Duty) (j : BitVec 8) (s t : State) : Prop where
  cfg : t.cfg = s.cfg
  lut : t.lut = s.lut
  res : t.res = (privHandle j.toNat).setWidth 64
  valid : handleValid t (privHandle j.toNat) = true
  entries : ∀ n < s.cfg.sampleRate,
    memRead t.mem (privHandle j.toNat) (BitVec.ofNat 32 n) = some (tableEntry s.cfg wk dc (opbF32 s) n)

/-- `TBL.BUILD` in contract builds (R541). -/
theorem execTblBuild_built {s : State} (hs : SizesOk s) {wk : Wave} (hwk : wk.isSourceKind = true)
    (hf : freqInContract (opbF32 s) = true) {j : BitVec 8} (hlen : s.cfg.privLen[j.toNat]? = some s.cfg.sampleRate)
    (dc : Duty) : ∃ t, execTblBuild wk dc j s = .next t ∧ Built wk dc j s t := by
  have hj := j.isLt
  have hpriv : j.toNat < s.cfg.nPriv := (List.getElem?_eq_some_iff.1 hlen).1
  exact ⟨_, execTblBuild_of_inContract hwk hf hlen dc, rfl, rfl, rfl,
    handleValid_privHandle (by omega) hpriv (privOk_set_self hs hlen), fun n hn => memRead_built hs.1 s.mem _ wk dc _ hn⟩

/-- Settles O35: the bound reader holds the handle of the table built, and what it reads are the entries that were built, which
for these kinds are the words of `SMP`. -/
theorem tableReadsBack : Obligations.TableReadsBack := by
  rintro wk dc j i s f hs hwk hsin hlen rfl hf hi
  have ⟨hwf, _, hlut, _⟩ := hs
  obtain ⟨s₁, hbuild, hbuilt⟩ := execTblBuild_built hs hwk hf hlen dc
  have hopa : opaHandle { s₁ with opa := s₁.res } = privHandle j.toNat := by
    rw [hbuilt.res]
    exact opaHandle_of_setWidth s₁ _
  have hl : getLut s₁ i = some s.lut[i.toNat] := by
    rw [getLut_eq_some, hbuilt.cfg, hbuilt.lut]
    exact ⟨hi, List.getElem?_eq_getElem _⟩
  obtain ⟨s₂, hbind, hst, hat⟩ := execLutBind_then_at (s := { s₁ with opa := s₁.res }) hl (hopa ▸ hbuilt.valid)
  refine ⟨s₁, s₂, hbuild, hbind, hst, fun k => hat k _ ?_⟩
  rw [hopa, ← tableEntry_of_ne_sin s.cfg dc _ _ hsin, hbuilt.cfg]
  exact hbuilt.entries _ (Nat.mod_lt _ hwf.1)

end Sys2Proof.Machine
end

section
/-! The effective pulse width of the variable-shape oscillator (48_vso.md R577), with the exact results of R9 it rests on. -/

namespace Sys2Proof.Machine

/-! ## Exact results -/

/-- A value at least another is not below it. -/
theorem lt32_eq_false_of_le32 {a b : F32} (h : le32 b a = true) : lt32 a b = false := by
  simp only [le32, lt32, Bool.and_eq_true, decide_eq_true_eq] at *
  simp [h.2]

/-- A value above another is not at most it. -/
theorem le32_eq_false_of_lt32 {a b : F32} (h : lt32 b a = true) : le32 a b = false := by
  simp only [le32, lt32, Bool.and_eq_true, decide_eq_true_eq] at *
  simp [h.2]

/-- The order is transitive. -/
theorem lt32_of_le_of_lt {a b c : F32} (h1 : le32 a b = true) (h2 : lt32 b c = true) : lt32 a c = true := by
  simp only [lt32, le32, Bool.and_eq_true, Bool.not_eq_true', decide_eq_true_eq] at *
  exact ⟨⟨h1.1.1, h2.1.2⟩, h1.2.trans_lt h2.2⟩

/-- Finite values other than 0 have one pattern each. -/
theorem eq_of_int32_eq {x y : F32} (h : int32 x = int32 y) (h0 : int32 x ≠ 0) : x = y := by
  have hxy := key32_lt_iff x y
  have hyx := key32_lt_iff y x
  have hlow := key32_lt_iff x zero32
  have hhigh := key32_lt_iff zero32 x
  rw [int32_zero32] at hlow hhigh
  have hzero : key32 zero32 = 0 := by decide
  exact eq_of_key32_eq (by omega) (by omega)

/-- A product of finite values does not depend on their order. -/
theorem mul32_comm_finite {a b : F32} (ha : isFin32 a = true) (hb : isFin32 b = true) : mul32 a b = mul32 b a := by
  rw [mul32_eq_rn32 a b ha hb, mul32_eq_rn32 b a hb ha, Nat.mul_comm, bne_comm]

/-- A sum with `+0.0` is exact. -/
theorem int32_add32_zero32 {x : F32} (hx : isFin32 x = true) : int32 (add32 zero32 x) = int32 x := by
  have hsum : int32 zero32 + int32 x = int32 x := by rw [int32_zero32, Int.zero_add]
  obtain ⟨-, hlo, hhi⟩ := int32_between hx hx (le_add32 _ _ _ (by decide) hx hx hsum.ge)
    (add32_le _ _ _ (by decide) hx hx hsum.le)
  exact le_antisymm hhi hlo

/-- A sum with `+0.0` is the other operand, unless that is a zero. -/
theorem add32_zero32 {x : F32} (hx : isFin32 x = true) (h0 : int32 x ≠ 0) : add32 zero32 x = x :=
  eq_of_int32_eq (int32_add32_zero32 hx) (by rwa [int32_add32_zero32 hx])

/-- Twice a value in [0, 0.5] is the value of a binary32: its exponent is one more. -/
theorem exists_int32_eq_two_mul {x : F32} (h0 : 0 ≤ int32 x) (h1 : int32 x ≤ 2 ^ 148) :
    ∃ z, isFin32 z = true ∧ int32 z = 2 * int32 x := by
  have habs : ((units32 x : Nat) : Int) = int32 x := by
    unfold int32 at *
    split at h0 <;> simp_all
  obtain ⟨k, e, hval, hk⟩ := magUnits_eq_mul_two_pow (p := 24) (by omega) (mag32 x)
  obtain ⟨m, hm⟩ := exists_magUnits_eq (p := 24) (by omega) k (e + 1) hk
  have hdouble : magUnits 24 m = 2 * units32 x := by
    rw [hm, units32, hval]
    ring
  have hle : m ≤ 0x3F800000 := (magUnits_le_iff 24 _ _ (by omega)).1 (by rw [magUnits_one32]; omega)
  refine ⟨pack32 false m, ?_, ?_⟩
  · rw [isFin32_iff, mag32_pack32 _ _ (by omega), inf32]
    omega
  · rw [int32_eq_signedNum, sign32_pack32 _ _ (by omega), mag32_pack32 _ _ (by omega), hdouble]
    simp only [signedNum, Bool.false_eq_true, if_false]
    omega

/-- Doubling a value in [0, 0.5] is exact. -/
theorem int32_two32_mul32 {x : F32} (hx : isFin32 x = true) (h0 : 0 ≤ int32 x) (h1 : int32 x ≤ 2 ^ 148) :
    isFin32 (mul32 two32 x) = true ∧ int32 (mul32 two32 x) = 2 * int32 x := by
  obtain ⟨z, hz, hval⟩ := exists_int32_eq_two_mul h0 h1
  have hprod : int32 two32 * int32 x = int32 z * 2 ^ 149 := by
    rw [int32_two32, hval]
    ring
  obtain ⟨hfin, hlo, hhi⟩ := mul32_between (by decide) hx hz hz hprod.ge hprod.le
  exact ⟨hfin, (le_antisymm hhi hlo).trans hval⟩

/-! ## The effective pulse width (R577) -/

section
variable {sf pw : F32}

/-- A slave frequency in contract, in terms of the value (R576). -/
theorem slaveFreq_range (h0 : lt32 zero32 sf = true) (h1 : le32 sf quarter32 = true) :
    isFin32 sf = true ∧ 0 < int32 sf ∧ int32 sf ≤ 2 ^ 147 := by
  obtain ⟨hfin, -, hhi⟩ := quarter_range (le32_of_lt32 h0) h1
  rw [lt32_iff _ _ (by decide) hfin, int32_zero32] at h0
  exact ⟨hfin, h0, hhi⟩

/-- The two spellings of twice the slave frequency in R577 are one value, and it is exact. -/
theorem twiceSlaveFreq (h0 : lt32 zero32 sf = true) (h1 : le32 sf quarter32 = true) :
    mul32 sf two32 = mul32 two32 sf ∧ isFin32 (mul32 two32 sf) = true ∧ int32 (mul32 two32 sf) = 2 * int32 sf := by
  obtain ⟨hfin, hlo, hhi⟩ := slaveFreq_range h0 h1
  exact ⟨mul32_comm_finite hfin (by decide), int32_two32_mul32 hfin hlo.le (by omega)⟩

/-- The lower limit is at most 0.5 and the upper one at least. -/
theorem pulseWidthLimits (h0 : lt32 zero32 sf = true) (h1 : le32 sf quarter32 = true) :
    le32 (mul32 sf two32) half32 = true ∧ le32 half32 (sub32 one32 (mul32 two32 sf)) = true := by
  obtain ⟨-, hlo, hhi⟩ := slaveFreq_range h0 h1
  obtain ⟨hcomm, hfin, hval⟩ := twiceSlaveFreq h0 h1
  refine ⟨?_, le_sub32 _ _ _ (by decide) hfin (by decide) ?_⟩
  · rw [hcomm, le32_iff _ _ hfin (by decide), hval, int32_half32]
    omega
  · rw [hval, int32_one32, int32_half32]
    omega

/-- At the ceiling the effective pulse width is 0.5. -/
theorem pwEff_quarter32 (pw : F32) : pwEff quarter32 pw = half32 := rfl

/-- Below the ceiling the effective pulse width is the limit that the request lies beyond, or the request between the limits. -/
theorem pwEff_cases (h0 : lt32 zero32 sf = true) (h1 : lt32 sf quarter32 = true) (hpw : isFin32 pw = true) :
    (lt32 pw (mul32 sf two32) = true ∧ pwEff sf pw = mul32 sf two32) ∨
    (lt32 (sub32 one32 (mul32 two32 sf)) pw = true ∧ pwEff sf pw = sub32 one32 (mul32 two32 sf)) ∨
    (le32 (mul32 sf two32) pw = true ∧ le32 pw (sub32 one32 (mul32 two32 sf)) = true ∧ pwEff sf pw = pw) := by
  obtain ⟨hlo, hhi⟩ := pulseWidthLimits h0 (le32_of_lt32 h1)
  have hnan := isNaN32_of_isFin32 pw hpw
  simp only [pwEff, le32_eq_false_of_lt32 h1, Bool.false_eq_true, if_false]
  generalize mul32 sf two32 = lo at *
  generalize sub32 one32 (mul32 two32 sf) = hi at *
  by_cases hbelow : lt32 pw lo = true
  · exact .inl ⟨hbelow, by simp [hbelow, lt32_eq_false_of_le32 (le32_trans hlo hhi)]⟩
  · by_cases habove : lt32 hi pw = true
    · exact .inr (.inl ⟨habove, by simp [hbelow, habove]⟩)
    · exact .inr (.inr ⟨le32_total hnan (not_isNaN32_of_le32 hlo).1 hbelow,
        le32_total (not_isNaN32_of_le32 hhi).2 hnan habove, by simp [hbelow, habove]⟩)

/-- Below the ceiling the effective pulse width is between its limits. -/
theorem pwEff_between (h0 : lt32 zero32 sf = true) (h1 : lt32 sf quarter32 = true) (hpw : isFin32 pw = true) :
    le32 (mul32 sf two32) (pwEff sf pw) = true ∧ le32 (pwEff sf pw) (sub32 one32 (mul32 two32 sf)) = true := by
  obtain ⟨hlo, hhi⟩ := pulseWidthLimits h0 (le32_of_lt32 h1)
  have hlimits := le32_trans hlo hhi
  have hself {x : F32} (h : isNaN32 x = false) : le32 x x = true := le32_of_key32 x x h h le_rfl
  obtain ⟨hnlo, hnhi⟩ := not_isNaN32_of_le32 hlimits
  rcases pwEff_cases h0 h1 hpw with ⟨-, heq⟩ | ⟨-, heq⟩ | ⟨hlow, hhigh, heq⟩ <;> rw [heq]
  · exact ⟨hself hnlo, hlimits⟩
  · exact ⟨hlimits, hself hnhi⟩
  · exact ⟨hlow, hhigh⟩

/-- A request between the limits is the effective pulse width. -/
theorem pwEff_of_between (h0 : lt32 zero32 sf = true) (h1 : lt32 sf quarter32 = true) (hpw : isFin32 pw = true)
    (hlow : le32 (mul32 sf two32) pw = true) (hhigh : le32 pw (sub32 one32 (mul32 two32 sf)) = true) : pwEff sf pw = pw := by
  rcases pwEff_cases h0 h1 hpw with ⟨hlt, -⟩ | ⟨hlt, -⟩ | ⟨-, -, heq⟩
  · rw [lt32_eq_false_of_le32 hlow] at hlt
    cases hlt
  · rw [lt32_eq_false_of_le32 hhigh] at hlt
    cases hlt
  · exact heq

/-- A slave frequency in contract is 0.25 or below it. -/
theorem eq_or_lt_quarter32 (h1 : le32 sf quarter32 = true) : sf = quarter32 ∨ lt32 sf quarter32 = true := by
  have hkey : key32 quarter32 ≠ 0 := by decide
  simp only [le32, lt32, Bool.and_eq_true, decide_eq_true_eq] at *
  rcases h1.2.eq_or_lt with heq | hlt
  · exact .inl (eq_of_key32_eq heq (heq ▸ hkey))
  · exact .inr ⟨h1.1, hlt⟩

/-- The effective pulse width is above the slave frequency: it is at least twice that, or 0.5 at the ceiling. -/
theorem lt_pwEff (h0 : lt32 zero32 sf = true) (h1 : le32 sf quarter32 = true) (hpw : isFin32 pw = true) :
    lt32 sf (pwEff sf pw) = true := by
  obtain ⟨hfin, hpos, -⟩ := slaveFreq_range h0 h1
  obtain ⟨hcomm, hdfin, hdouble⟩ := twiceSlaveFreq h0 h1
  rcases eq_or_lt_quarter32 h1 with rfl | hlt
  · rw [pwEff_quarter32]
    decide
  · refine lt32_of_lt_of_le ?_ (pwEff_between h0 hlt hpw).1
    rw [hcomm, lt32_iff _ _ hfin hdfin, hdouble]
    omega

/-- The upper limit is below 1 for a slave frequency above 2^-26: `1 - 2 * sfreq` is then nearer to `1 - 2^-24` than to 1. -/
theorem upperLimit_lt_one (h0 : lt32 zero32 sf = true) (h1 : le32 sf quarter32 = true)
    (h2 : lt32 0x32800000#32 sf = true) : lt32 (sub32 one32 (mul32 two32 sf)) one32 = true := by
  obtain ⟨hfin, hpos, hhi⟩ := slaveFreq_range h0 h1
  obtain ⟨-, hdfin, hdouble⟩ := twiceSlaveFreq h0 h1
  have hcorner : int32 0x32800000#32 = 2 ^ 123 := by decide
  rw [lt32_iff _ _ (by decide) hfin, hcorner] at h2
  have hnear := isRN32_sub32 one32 (mul32 two32 sf) (by decide) hdfin
  have hle := sub32_le one32 (mul32 two32 sf) one32 (by decide) hdfin (by decide) (by omega)
  unfold IsRN32 at hnear
  rw [hdouble, int32_one32, if_neg (by omega)] at hnear
  obtain ⟨hlfin, hnear⟩ := hnear
  rw [le32_iff _ _ hlfin (by decide), int32_one32] at hle
  rw [lt32_iff _ _ hlfin (by decide), int32_one32]
  refine lt_of_le_of_ne hle fun hone => ?_
  have hbelow := hnear belowOne32 (by decide) (by rw [hone, int32_belowOne32]; omega)
  rw [hone, int32_belowOne32] at hbelow
  omega

end

/-- Settles O39: the clamp of R577 with its limits on both sides of 0.5. -/
theorem pulseWidthBounds : Obligations.PulseWidthBounds := by
  intro sf pw h0 h1 hpw
  refine ⟨fun hsf => by rw [hsf]; exact pwEff_quarter32 pw, fun hlt => ?between,
    lt32_of_lt_of_le h0 (le32_of_lt32 (lt_pwEff h0 h1 hpw)), pwEff_le_one sf pw (le32_of_lt32 h0) h1 hpw, fun hcorner => ?below⟩
  case between =>
    obtain ⟨hlow, hhigh⟩ := pwEff_between h0 hlt hpw
    exact ⟨hlow, hhigh, pwEff_of_between h0 hlt hpw⟩
  case below =>
    rcases eq_or_lt_quarter32 h1 with rfl | hlt
    · rw [pwEff_quarter32]
      decide
    · exact lt32_of_le_of_lt (pwEff_between h0 hlt hpw).2 (upperLimit_lt_one h0 h1 hcorner)

end Sys2Proof.Machine
end

section
/-! The setters, the kernels and the tick of the variable-shape oscillator (48_vso.md R571 to R575, R578 to R584). -/

namespace Sys2Proof.Machine

/-! ## The loop of a tick (R580, R581) -/

/-- The working copies after the rising transition, if it happens. -/
def afterRise (k : VsoShape) (rise : Bool) (a : VsoAcc) : VsoAcc := if rise then vsoRise k a else a

/-- The working copies after the falling transition, if it happens. -/
def afterFall (k : VsoShape) (fall : Bool) (a : VsoAcc) : VsoAcc := if fall then vsoFall k a else a

section
variable {k : VsoShape} {a : VsoAcc}

/-- The rising transition leaves the phase. -/
@[simp] theorem afterRise_sph (k : VsoShape) (rise : Bool) (a : VsoAcc) : (afterRise k rise a).sph = a.sph := by
  cases rise <;> rfl

/-- The loop is left by its first test while the phase is in the low half-cycle. -/
theorem vsoPass_of_low (hhigh : a.high = false) (hlt : lt32 a.sph k.pw = true) : vsoPass k a = (a, true) := by
  simp [vsoPass, hhigh, hlt]

/-- A pass that the first test does not leave ends by the second test, or with the falling transition. -/
theorem vsoPass_of_not_low (h : (!a.high && lt32 a.sph k.pw) = false) :
    vsoPass k a = if lt32 a.sph one32 then (afterRise k (!a.high) a, true)
      else (vsoFall k (afterRise k (!a.high) a), false) := by
  have hrise : (if a.high then a else vsoRise k a) = afterRise k (!a.high) a := by
    cases hhigh : a.high <;> simp [afterRise]
  simp only [vsoPass, h, hrise, afterRise_sph, Bool.false_eq_true, if_false]

/-- The loop makes the transitions that the phase has reached: its first pass is the last, or ends with the falling transition,
after which the phase is below the pulse width and the next pass leaves by its first test. -/
theorem vsoPasses_eq (hwrap : lt32 a.sph one32 = false → lt32 (sub32 a.sph one32) k.pw = true) (n : Nat) {rise : Bool}
    (hrise : rise = (!a.high && !lt32 a.sph k.pw)) :
    vsoPasses k (n + 2) a = (afterFall k ((a.high || rise) && !lt32 a.sph one32) (afterRise k rise a), true) := by
  subst hrise
  cases hlow : !a.high && lt32 a.sph k.pw
  case true =>
    obtain ⟨hhigh, hlt⟩ : a.high = false ∧ lt32 a.sph k.pw = true := by simpa using hlow
    simp [vsoPasses, vsoPass_of_low hhigh hlt, hhigh, hlt, afterRise, afterFall]
  case false =>
    have hrise : (!a.high && !lt32 a.sph k.pw) = !a.high := by cases hhigh : a.high <;> simp_all
    rw [hrise, Bool.or_not_self, Bool.true_and]
    cases hone : lt32 a.sph one32
    case true => simp [vsoPasses, vsoPass_of_not_low hlow, hone, afterFall]
    case false =>
      have hnext : vsoPass k (vsoFall k (afterRise k (!a.high) a)) = (vsoFall k (afterRise k (!a.high) a), true) :=
        vsoPass_of_low rfl (by simpa [vsoFall] using hwrap hone)
      simp [vsoPasses, vsoPass_of_not_low hlow, hone, hnext, afterFall]

/-- What the loop leaves when it is run, and when it is not. -/
theorem vsoLoop_eq (hwrap : lt32 a.sph one32 = false → lt32 (sub32 a.sph one32) k.pw = true) {run rise fall : Bool}
    (hrise : rise = (run && !a.high && !lt32 a.sph k.pw)) (hfall : fall = (run && (a.high || rise) && !lt32 a.sph one32)) :
    (if run then vsoLoop k a else a) = afterFall k fall (afterRise k rise a) := by
  subst hfall
  cases run
  case false =>
    subst hrise
    rfl
  case true =>
    rw [if_pos rfl, vsoLoop, vsoPasses_eq hwrap 1 (by simpa using hrise), Bool.true_and]

end

section
variable {v : Vso}

/-- The wrap of the slave takes its phase to at most its frequency, which is below the pulse width. -/
theorem wrapped_lt_pwEff (hin : vsoInContract v = true) (hs : InUnit v.sph) :
    lt32 (sub32 (add32 v.sph v.sfreq) one32) (vsoShapeOf v).pw = true := by
  obtain ⟨-, ⟨h0, h1⟩, hpw, -⟩ := (vsoInContract_iff v).1 hin
  refine lt32_of_le_of_lt (sub32_le _ _ _ (advanced_add32 hs (le32_of_lt32 h0) h1).1 (by decide) (slaveFreq_range h0 h1).1 ?_)
    (lt_pwEff h0 h1 hpw)
  rw [int32_one32]
  exact wrapped_le _ _ hs (le32_of_lt32 h0) h1

end

/-- Settles O41: the loop is left in its second pass at the latest, and every pass takes the phase into [0, 1). -/
theorem vsoLoopEnds : Obligations.VsoLoopEnds := by
  intro v this nxt hin hs
  obtain ⟨-, ⟨h0, h1⟩, hpw, -⟩ := (vsoInContract_iff v).1 hin
  let a : VsoAcc := { this := this, nxt := nxt, sph := add32 v.sph v.sfreq, high := v.high }
  have hpasses := vsoPasses_eq (k := vsoShapeOf v) (a := a) (fun _ => wrapped_lt_pwEff hin hs) 1 rfl
  have hunit := vsoPasses_inUnit (vsoShapeOf v) 2 a (pwEff_le_one _ _ (le32_of_lt32 h0) h1 hpw)
    (advanced_add32 hs (le32_of_lt32 h0) h1)
  rw [hpasses] at hunit
  exact ⟨_, hpasses, hunit⟩

/-! ## The tick (R580) -/

/-- The working copies at the start of step 2 of R580, the slave's phase advanced. -/
def startTick (v : Vso) (y : VsoSync) : VsoAcc :=
  { this := y.this, nxt := y.nxt, sph := add32 v.sph v.sfreq, high := v.high }

/-- Step 3 of R580: the registers and the output from what the master's wrap decides, `y`, and what the loop leaves, `a`. -/
def endTick (v : Vso) (y : VsoSync) (a : VsoAcc) : Vso × F32 :=
  let sph := if y.reset then mul32 y.rt v.sfreq else a.sph
  ({ v with
      mph := (masterAdvance v).1, sph := sph, high := if y.reset then false else a.high, prevPw := (vsoShapeOf v).pw,
      next := add32 a.nxt (naive32 (vsoShapeOf v) sph) },
    sub32 (mul32 two32 a.this) one32)

section
variable {v : Vso}

/-- A tick is what the master's wrap decides, the loop, and the end of the tick. -/
theorem vsoTick_eq_endTick {y : VsoSync}
    (hy : vsoSyncPass (vsoShapeOf v) v (masterAdvance v).1 (masterAdvance v).2 = y) :
    vsoTick v = endTick v y (if y.tdr || !y.reset then vsoLoop (vsoShapeOf v) (startTick v y) else startTick v y) := by
  subst hy
  unfold vsoTick endTick
  rfl

/-- A tick in contract: what the master's wrap decides, then the two transitions of the slave, each said by whether it happens,
then the end of the tick. -/
theorem vsoTick_eq (hin : vsoInContract v = true) (hs : InUnit v.sph) {y : VsoSync}
    (hy : vsoSyncPass (vsoShapeOf v) v (masterAdvance v).1 (masterAdvance v).2 = y) {rise fall : Bool}
    (hrise : rise = ((y.tdr || !y.reset) && !v.high && !lt32 (add32 v.sph v.sfreq) (vsoShapeOf v).pw))
    (hfall : fall = ((y.tdr || !y.reset) && (v.high || rise) && !lt32 (add32 v.sph v.sfreq) one32)) :
    vsoTick v =
      endTick v y (afterFall (vsoShapeOf v) fall (afterRise (vsoShapeOf v) rise (startTick v y))) := by
  rw [vsoTick_eq_endTick hy, vsoLoop_eq (a := startTick v y) (fun _ => wrapped_lt_pwEff hin hs) hrise hfall]

/-- The master phase after its advance, and whether it wrapped. -/
theorem masterAdvance_eq (v : Vso) :
    masterAdvance v = (if le32 one32 (add32 v.mph v.mfreq) then sub32 (add32 v.mph v.mfreq) one32 else add32 v.mph v.mfreq,
      le32 one32 (add32 v.mph v.mfreq)) := by
  unfold masterAdvance
  dsimp only
  split
  next h => rw [h]
  next h => rw [Bool.eq_false_iff.2 h]

/-- The slave phase at the reset, and whether it has passed the end of its cycle. -/
theorem resetPhase_eq (k : VsoShape) (v : Vso) (rt : F32) {p : F32} (hp : p = add32 v.sph (mul32 (sub32 one32 rt) k.sf)) :
    resetPhase k v rt = (if le32 one32 p then sub32 p one32 else p, le32 one32 p) := by
  subst hp
  unfold resetPhase
  dsimp only
  split
  next h => rw [h]
  next h => rw [Bool.eq_false_iff.2 h]

/-- What the first step of R580 decides when the slave is not reset. -/
def noReset (v : Vso) : VsoSync := { reset := false, tdr := false, rt := zero32, this := v.next, nxt := zero32 }

/-- The slave is not reset unless the master wraps with sync on. -/
theorem vsoSyncPass_of_not (k : VsoShape) {v : Vso} (mph : F32) {wrapped : Bool} (h : (wrapped && v.sync) = false) :
    vsoSyncPass k v mph wrapped = noReset v := by
  simp [vsoSyncPass, noReset, h]

/-- What the master's wrap decides, in the terms of R580: the reset `hard`, its time `rt`, the slave phase `sp` at that time and
its naive sample `val`. -/
theorem vsoSyncPass_eq (k : VsoShape) {m rt p sp val th₀ nx₀ : F32} {hard tdr : Bool} (hm : m = add32 v.mph v.mfreq)
    (hhard : hard = (le32 one32 m && v.sync)) (hrt : rt = div32 (sub32 m one32) v.mfreq)
    (hp : p = add32 v.sph (mul32 (sub32 one32 rt) k.sf)) (hsp : sp = if le32 one32 p then sub32 p one32 else p)
    (htdr : tdr = (le32 one32 p || (!v.high && le32 k.pw sp))) (hval : val = naive32 k sp)
    (hth₀ : th₀ = if hard then sub32 v.next (mul32 val (thisBlep rt)) else v.next)
    (hnx₀ : nx₀ = if hard then sub32 zero32 (mul32 val (nextBlep rt)) else zero32) :
    vsoSyncPass k v (masterAdvance v).1 (masterAdvance v).2 =
      { reset := hard, tdr := hard && tdr, rt := if hard then rt else zero32, this := th₀, nxt := nx₀ } := by
  rw [masterAdvance_eq, ← hm, hth₀, hnx₀]
  cases hard
  case false => simpa [noReset] using vsoSyncPass_of_not k _ hhard.symm
  case true =>
    obtain ⟨hwrap, hsync⟩ : le32 one32 m = true ∧ v.sync = true := by simpa using hhard.symm
    subst hval htdr hsp
    simp [vsoSyncPass, hwrap, hsync, ← hrt, resetPhase_eq k v rt hp]

end

/-- What the transitions of the slave leave, each said by whether it happens, with its corrections of the `this` and `nxt` parts
(R580, step 2). -/
theorem transitions_eq (k : VsoShape) (rise fall high : Bool) {a t t' th₀ nx₀ th₁ nx₁ th₂ nx₂ : F32}
    (ht : t = div32 (sub32 a k.pw) (add32 (sub32 k.prevPw k.pw) k.sf))
    (hth₁ : th₁ = if rise then
      sub32 (add32 th₀ (mul32 k.sq (thisBlep t))) (mul32 (slopeChange k) (thisIblep t)) else th₀)
    (hnx₁ : nx₁ = if rise then
      sub32 (add32 nx₀ (mul32 k.sq (nextBlep t))) (mul32 (slopeChange k) (nextIblep t)) else nx₀)
    (ht' : t' = div32 (sub32 a one32) k.sf)
    (hth₂ : th₂ = if fall then
      add32 (sub32 th₁ (mul32 (sub32 one32 k.tri) (thisBlep t'))) (mul32 (slopeChange k) (thisIblep t')) else th₁)
    (hnx₂ : nx₂ = if fall then
      add32 (sub32 nx₁ (mul32 (sub32 one32 k.tri) (nextBlep t'))) (mul32 (slopeChange k) (nextIblep t')) else nx₁) :
    afterFall k fall (afterRise k rise { this := th₀, nxt := nx₀, sph := a, high := high }) =
      { this := th₂, nxt := nx₂, sph := if fall then sub32 a one32 else a, high := (high || rise) && !fall } := by
  have hrise : afterRise k rise { this := th₀, nxt := nx₀, sph := a, high := high } =
      { this := th₁, nxt := nx₁, sph := a, high := high || rise } := by
    subst ht hth₁ hnx₁
    cases rise <;> simp [afterRise, vsoRise]
  rw [hrise]
  subst ht' hth₂ hnx₂
  cases fall <;> simp [afterFall, vsoFall]

/-- Settles O38: what the master's wrap decides, the transitions of the slave, and the end of the tick, put together. -/
theorem vsoTickResult : Obligations.VsoTickResult := by
  rintro i s v k m a rt p sp val ts t t' hard tdr rise fall th₀ nx₀ th₁ nx₁ th₂ nx₂ sph y hi hv hwr hundef hm0 hm1 hs0 hs1 hpw
    hw0 hw1 hunit rfl hm rfl hhard hrt hp hsp htdr hval hth₀ hnx₀ rfl hrise hfall ht hth₁ hnx₁ ht' hth₂ hnx₂ hsph rfl
  have hin : vsoInContract v = true :=
    (vsoInContract_iff v).2 ⟨⟨hm0, hm1⟩, ⟨hs0, hs1⟩, hpw, (within32_iff ..).2 ⟨hw0, hw1⟩⟩
  have hmaster : (masterAdvance v).1 = if le32 one32 m then sub32 m one32 else m := by rw [masterAdvance_eq, hm]
  have hrun : (hard && tdr || !hard) = (!hard || tdr) := by cases hard <;> simp
  have hy := vsoSyncPass_eq (vsoShapeOf v) hm hhard hrt hp hsp htdr hval hth₀ hnx₀
  have htick := vsoTick_eq hin hunit hy (rise := rise) (fall := fall) (by rwa [hrun]) (by rwa [hrun])
  rw [startTick, transitions_eq (vsoShapeOf v) rise fall v.high ht hth₁ hnx₁ ht' hth₂ hnx₂] at htick
  refine (execVsoTick_of_some ((getVso_eq_some ..).2 ⟨hi, hv⟩) hwr).trans ((if_pos ⟨hundef, hin⟩).trans ?_)
  subst hsph
  rw [htick]
  have hwidth : (vsoShapeOf v).pw = pwEff v.sfreq v.pwReq := rfl
  cases hard <;> simp [endTick, hmaster, hwidth, retOk, finish, putVso, encF32]

/-! ## Ticks without a reset (R582, R584) -/

section
variable {v : Vso}

/-- A master at `+0.0` does not wrap, and its frequency becomes its phase. -/
theorem masterAdvance_of_zero (hm : v.mph = zero32) (h0 : le32 zero32 v.mfreq = true) (h1 : le32 v.mfreq quarter32 = true) :
    masterAdvance v = (add32 zero32 v.mfreq, false) := by
  obtain ⟨hfin, -, hhi⟩ := quarter_range h0 h1
  have hle : le32 (add32 zero32 v.mfreq) quarter32 = true :=
    add32_le _ _ _ (by decide) hfin (by decide) (by rw [int32_zero32, int32_quarter32]; omega)
  have hwrap : le32 one32 (add32 zero32 v.mfreq) = false :=
    le32_eq_false_of_lt32 (lt32_of_le_of_lt hle (by decide))
  simp [masterAdvance_eq, hm, hwrap]

/-- With sync off a tick runs the loop on the advanced slave phase and resets nothing. -/
theorem vsoTick_of_sync_off (h : v.sync = false) :
    vsoTick v = endTick v (noReset v) (vsoLoop (vsoShapeOf v) (startTick v (noReset v))) :=
  vsoTick_eq_endTick (vsoSyncPass_of_not _ _ (by rw [h, Bool.and_false]))

/-- A tick from phases and a `next` part of `+0.0`, in the low half-cycle: the slave's frequency, its phase after the advance, is
below the pulse width, so there is no transition and no correction. -/
theorem vsoTick_of_reset (hin : vsoInContract v = true) (hm : v.mph = zero32) (hs : v.sph = zero32) (hnext : v.next = zero32)
    (hhigh : v.high = false) :
    vsoTick v =
      ({ v with
          mph := add32 zero32 v.mfreq, sph := v.sfreq, high := false, prevPw := (vsoShapeOf v).pw,
          next := add32 zero32 (naive32 (vsoShapeOf v) v.sfreq) },
        sub32 (mul32 two32 zero32) one32) := by
  obtain ⟨⟨hm0, hm1⟩, ⟨hs0, hs1⟩, hpw, -⟩ := (vsoInContract_iff v).1 hin
  obtain ⟨hsfin, hspos, -⟩ := slaveFreq_range hs0 hs1
  have hmaster := masterAdvance_of_zero hm hm0 hm1
  have hy : vsoSyncPass (vsoShapeOf v) v (masterAdvance v).1 (masterAdvance v).2 = noReset v :=
    vsoSyncPass_of_not _ _ (by rw [hmaster, Bool.false_and])
  have ha : v.sfreq = add32 v.sph v.sfreq := by rw [hs, add32_zero32 hsfin hspos.ne']
  have hlow : lt32 v.sfreq (vsoShapeOf v).pw = true := lt_pwEff hs0 hs1 hpw
  rw [vsoTick_eq hin (hs ▸ inUnit_zero32) hy (rise := false) (fall := false) (by simp [← ha, hlow]) (by simp [hhigh])]
  simp [endTick, startTick, noReset, afterFall, afterRise, ← ha, hmaster, hhigh, hnext]

end

/-- Settles O40: the output is `2 * 0.0 - 1.0`, and the master phase is `mfreq` up to the sign of a zero. -/
theorem vsoFirstTick : Obligations.VsoFirstTick := by
  intro v hin hm hs hnext hhigh
  obtain ⟨⟨hm0, hm1⟩, -⟩ := (vsoInContract_iff v).1 hin
  rw [vsoTick_of_reset hin hm hs hnext hhigh]
  dsimp only
  have hout : sub32 (mul32 two32 zero32) one32 = 0xBF800000#32 := by decide +kernel
  exact ⟨hout, rfl, int32_add32_zero32 (quarter_range hm0 hm1).1, rfl, rfl⟩

/-- Settles O42: with sync off the master decides nothing, and the rest of the tick does not read its registers. -/
theorem vsoSyncOffIgnoresMaster : Obligations.VsoSyncOffIgnoresMaster := by
  intro v mph mfreq hsync
  rw [vsoTick_of_sync_off hsync, vsoTick_of_sync_off (v := { v with mph := mph, mfreq := mfreq }) hsync]
  have hshape : vsoShapeOf { v with mph := mph, mfreq := mfreq } = vsoShapeOf v := rfl
  have hstart (y : VsoSync) : startTick { v with mph := mph, mfreq := mfreq } y = startTick v y := rfl
  have hnone : noReset { v with mph := mph, mfreq := mfreq } = noReset v := rfl
  rw [hshape, hstart, hnone]
  simp [endTick, noReset, hshape]

/-! ## The setters (R571 to R575) -/

section
variable {s : State} {i : BitVec 8} {v : Vso}

/-- A setter on an instance that is there. -/
theorem vsoSet_of_some (hv : getVso s i = some v) (k : Nat) (ok : Bool) (f : Vso → Vso) :
    vsoSet i k ok f s = retOk (putVso s i { f v with wr := setFlag v.wr k, undef := markUndef v.undef k ok }) 0#64 := by
  simp [vsoSet, hv]

/-- The limit to 0.25 leaves a frequency above zero or not above zero as it was. -/
theorem lt32_zero32_vsoFreq (c : Params) (hertz : F32) :
    lt32 zero32 (vsoFreq c hertz) = lt32 zero32 (div32 hertz (rate32 c)) := by
  unfold vsoFreq
  dsimp only
  split
  next h => rw [lt32_of_lt_of_le (by decide) h]; decide
  next => rfl

end

/-- Settles O36: the instance is there, and what each setter writes is its pseudocode's. -/
theorem vsoSetters : Obligations.VsoSetters := by
  rintro i s v hz x hi hv rfl rfl
  have hset := vsoSet_of_some ((getVso_eq_some ..).2 ⟨hi, hv⟩)
  refine ⟨hset .., ?slave, hset .., hset .., fun g => hset ..⟩
  case slave =>
    rw [show rn32 false s.cfg.sampleRate 1 = rate32 s.cfg from rfl, ← lt32_zero32_vsoFreq]
    exact hset ..

/-! ## The kernels (R578, R579) -/

/-- Settles O37: the polynomials, the blend amounts and the naive sample are those of the definitions, and the values at the ends
are evaluated. -/
theorem vsoKernels : Obligations.VsoKernels := by
  refine ⟨?polynomials, by decide +kernel, by decide +kernel, by decide +kernel, by decide +kernel, by decide +kernel,
    by decide +kernel, by decide +kernel, by decide +kernel, ?shape, ?naive⟩
  case polynomials =>
    rintro t u t1 t2 rfl rfl rfl
    exact ⟨rfl, rfl, rfl, rfl⟩
  case shape =>
    rintro v pw d e rfl rfl rfl
    rfl
  case naive =>
    rintro k ph square triangle saw rfl rfl rfl
    rfl

end Sys2Proof.Machine
end

section
/-! The setters of the envelope and `ENV.STAT` (49_adsr.md R605 to R609, R612): what each stores, and the range of every coefficient
under what R604 says of `EXP32`, `LN32` and `POW32` alone. -/

namespace Sys2Proof.Machine

/-! ## The parameter functions (R604) -/

/-- `EXP32` of a value at most zero, `-inf` included, is in [0.0, 1.0]. -/
theorem exp32_range {x : F32} (hx : le32 x zero32 = true) : within32 zero32 (exp32 x) one32 = true := by
  unfold exp32
  dsimp only
  split
  · decide
  next hmag =>
    have hlt : lt32 x zero32 = true := by
      have hkey : key32 x ≠ 0 := by
        unfold key32
        split <;> omega
      have hzero : key32 zero32 = 0 := by decide
      simp only [le32, lt32, Bool.and_eq_true, decide_eq_true_eq, hzero] at hx ⊢
      exact ⟨hx.1, lt_of_le_of_ne hx.2 hkey⟩
    split
    · decide
    · split
      · decide
      next h => simpa [hlt] using h

/-- `LN32` of a value strictly between 0 and 1 is finite and negative. -/
theorem ln32_range {x : F32} (h0 : lt32 zero32 x = true) (h1 : lt32 x one32 = true) :
    isFin32 (ln32 x) = true ∧ lt32 (ln32 x) zero32 = true := by
  unfold ln32
  dsimp only
  split
  · decide
  next h => simpa [h0, h1] using h

/-- The tenth power of a value in [0, 1] is in [0.0, 1.0]. -/
theorem pow32_range {x : F32} (hx : within32 zero32 x one32 = true) : within32 zero32 (pow32 x ten32) one32 = true := by
  unfold pow32
  dsimp only
  rw [if_pos rfl]
  split
  · decide
  · split
    · decide
    · split
      · decide
      next h => simpa [hx] using h

/-! ## The coefficients (R603, R605, R606, R608) -/

/-- The range check against `0.0` and `1.0`, in terms of the value. -/
theorem within32_unit_iff (x : F32) :
    within32 zero32 x one32 = true ↔ isFin32 x = true ∧ 0 ≤ int32 x ∧ int32 x ≤ 2 ^ 149 := by
  rw [within32_iff]
  constructor
  · rintro ⟨hlo, hhi⟩
    simpa only [int32_zero32, int32_one32] using int32_between (by decide) (by decide) hlo hhi
  · rintro ⟨hfin, hlo, hhi⟩
    rw [le32_iff _ _ (by decide) hfin, le32_iff _ _ hfin (by decide), int32_zero32, int32_one32]
    exact ⟨hlo, hhi⟩

/-- `1.0 -32 v` of a value in [0, 1] is in [0.0, 1.0]. -/
theorem one_sub32_range {v : F32} (hv : within32 zero32 v one32 = true) :
    within32 zero32 (sub32 one32 v) one32 = true := by
  obtain ⟨hfin, hlo, hhi⟩ := (within32_unit_iff v).1 hv
  refine (within32_iff ..).2 ⟨le_sub32 _ _ _ (by decide) hfin (by decide) ?_, sub32_le _ _ _ (by decide) hfin (by decide) ?_⟩
  · rw [int32_zero32, int32_one32]
    omega
  · omega

/-- What is neither a NaN nor finite is an infinity. -/
theorem isInf32_of_not_isFin32 {x : F32} (hnan : isNaN32 x = false) (hfin : ¬isFin32 x = true) : isInf32 x = true := by
  rw [isFin32_iff] at hfin
  rw [Bool.eq_false_iff, Ne, isNaN32_iff] at hnan
  rw [isInf32_iff]
  omega

/-- A value above zero has the positive sign. -/
theorem sign32_of_pos {x : F32} (h : lt32 zero32 x = true) : sign32 x = false := by
  by_contra hs
  have hzero : key32 zero32 = 0 := by decide
  simp only [lt32, hzero, Bool.and_eq_true, decide_eq_true_eq] at h
  obtain ⟨-, hkey⟩ := h
  rw [key32, if_pos ((Bool.not_eq_false _).mp hs)] at hkey
  omega

section
variable {c : Params}

/-- A positive time in samples is positive, whether or not the product overflows to infinity. -/
theorem samples_pos (hc : c.wf) {seconds : F32} (h : lt32 zero32 seconds = true) :
    lt32 zero32 (mul32 seconds (rate32 c)) = true := by
  obtain ⟨hrfin, hrate⟩ := rate32_range c hc
  by_cases hfin : isFin32 seconds = true
  · have hpos := (lt32_iff _ _ (by decide) hfin).1 h
    rw [int32_zero32] at hpos
    exact lt32_of_lt_of_le h (le_mul32 _ _ _ hfin hrfin hfin (mul_le_mul_of_nonneg_left hrate hpos.le))
  · have hnan := (not_isNaN32_of_le32 (le32_of_lt32 h)).2
    have hinf := isInf32_of_not_isFin32 hnan hfin
    have hsign := sign32_of_pos h
    have hrsign : sign32 (rate32 c) = false := sign32_rn32 ..
    have hrmag : mag32 (rate32 c) ≠ 0 := fun h0 => by simp [int32, (units32_eq_zero _).2 h0] at hrate
    have hprod : mul32 seconds (rate32 c) = pack32 false inf32 := by
      simp [mul32, hnan, isNaN32_of_isFin32 _ hrfin, hinf, hrmag, hsign, hrsign]
    rw [hprod]
    decide

/-- A negative value over a positive one is at most zero; over infinity it is `-0.0`. -/
theorem div32_nonpos {a b : F32} (ha : isFin32 a = true) (hneg : lt32 a zero32 = true) (hb : lt32 zero32 b = true) :
    le32 (div32 a b) zero32 = true := by
  have hlt := (lt32_iff _ _ ha (by decide)).1 hneg
  rw [int32_zero32] at hlt
  by_cases hfin : isFin32 b = true
  · have hpos := (lt32_iff _ _ (by decide) hfin).1 hb
    rw [int32_zero32] at hpos
    exact div32_le _ _ _ ha hfin (by decide) hpos (by rw [int32_zero32]; omega)
  · have hnan : isNaN32 b = false := (not_isNaN32_of_le32 (le32_of_lt32 hb)).2
    have hinf := isInf32_of_not_isFin32 hnan hfin
    have hzero : ∀ neg : Bool, le32 (pack32 neg 0) zero32 = true := by decide
    simp [div32, hnan, isNaN32_of_isFin32 a ha, isInf32_of_isFin32 a ha, hinf, hzero]

/-- What the two coefficients share: `1.0 - EXP32(a / t)` with a negative `a` and a positive `t` is in [0.0, 1.0]. -/
theorem one_sub32_exp32_range {a t : F32} (ha : isFin32 a = true) (hneg : lt32 a zero32 = true) (ht : lt32 zero32 t = true) :
    within32 zero32 (sub32 one32 (exp32 (div32 a t))) one32 = true :=
  one_sub32_range (exp32_range (div32_nonpos ha hneg ht))

/-- The decay and release coefficient is in [0.0, 1.0]. -/
theorem timeCoeff_range (hc : c.wf) (seconds : F32) : within32 zero32 (timeCoeff c seconds) one32 = true := by
  unfold timeCoeff
  split
  next h => exact one_sub32_exp32_range (by decide) (by decide) (samples_pos hc h)
  next => decide

/-- The level at shape 1.0 without its last summand, `9.0 + 0.3` rounded. -/
theorem int32_levelTop : int32 0x4114CCCD#32 = 9751757 * 2 ^ 129 := by decide

/-- The attack level at shape 0.0. -/
theorem int32_levelAtZero : int32 0x3F8147AE#32 = 8472494 * 2 ^ 126 := by decide

/-- The attack level at shape 1.0. -/
theorem int32_levelAtOne : int32 0x4124F5C3#32 = 10810819 * 2 ^ 129 := by decide

/-- The attack level is between its values at the shapes 0.0 and 1.0. -/
theorem envLevel_range {shape : F32} (h : within32 zero32 shape one32 = true) :
    within32 0x3F8147AE#32 (envLevel shape) 0x4124F5C3#32 = true := by
  obtain ⟨hpfin, hp0, hp1⟩ := (within32_unit_iff _).1 (pow32_range h)
  obtain ⟨hsfin, hs0, hs1⟩ := (within32_unit_iff _).1 h
  have hnine : int32 0x41100000#32 = 9 * 2 ^ 149 := by decide
  have hthird : int32 0x3E99999A#32 = 10066330 * 2 ^ 124 := by decide
  obtain ⟨hafin, ha0, ha1⟩ := mul32_between (a := 0x41100000#32) (b := pow32 shape ten32) (lo := zero32) (hi := 0x41100000#32)
    (by decide) hpfin (by decide) (by decide) (by rw [int32_zero32, hnine]; omega) (by rw [hnine]; omega)
  obtain ⟨hbfin, hb0, hb1⟩ := mul32_between (a := 0x3E99999A#32) (b := shape) (lo := zero32) (hi := 0x3E99999A#32)
    (by decide) hsfin (by decide) (by decide) (by rw [int32_zero32, hthird]; omega) (by rw [hthird]; omega)
  rw [int32_zero32] at ha0 hb0
  obtain ⟨hcfin, hc0, hc1⟩ := int32_between (by decide) (by decide)
    (le_add32 (mul32 0x41100000#32 (pow32 shape ten32)) (mul32 0x3E99999A#32 shape) zero32 hafin hbfin (by decide)
      (by rw [int32_zero32]; omega))
    (add32_le _ _ 0x4114CCCD#32 hafin hbfin (by decide) (by rw [int32_levelTop]; omega))
  rw [int32_zero32] at hc0
  rw [int32_levelTop] at hc1
  exact (within32_iff ..).2 ⟨le_add32 _ _ _ hcfin (by decide) (by decide) (by omega),
    add32_le _ _ _ hcfin (by decide) (by decide) (by rw [int32_levelAtOne, int32_levelAtZero]; omega)⟩

/-- The ratio `1 - 1 / L` of a legal attack level is strictly between 0 and 1. -/
theorem attackRatio_range {level : F32} (h : within32 0x3F8147AE#32 level 0x4124F5C3#32 = true) :
    lt32 zero32 (sub32 one32 (div32 one32 level)) = true ∧ lt32 (sub32 one32 (div32 one32 level)) one32 = true := by
  obtain ⟨hlo, hhi⟩ := (within32_iff ..).1 h
  obtain ⟨hfin, hlo, hhi⟩ := int32_between (by decide) (by decide) hlo hhi
  rw [int32_levelAtZero] at hlo
  rw [int32_levelAtOne] at hhi
  have hpos : 0 < int32 level := by omega
  have hsixteenth : int32 0x3D800000#32 = 2 ^ 145 := by decide
  have htop : int32 0x3F7D7722#32 = 16611106 * 2 ^ 125 := by decide
  obtain ⟨hqfin, hq0, hq1⟩ := int32_between (by decide) (by decide)
    (le_div32 one32 level 0x3D800000#32 (by decide) hfin (by decide) hpos (by rw [hsixteenth, int32_one32]; omega))
    (div32_le one32 level 0x3F7D7722#32 (by decide) hfin (by decide) hpos (by rw [htop, int32_one32]; omega))
  rw [hsixteenth] at hq0
  rw [htop] at hq1
  constructor
  · refine lt32_of_lt_of_le (b := 0x33800000#32) (by decide) (le_sub32 _ _ _ (by decide) hqfin (by decide) ?_)
    rw [int32_one32, show int32 0x33800000#32 = 2 ^ 125 by decide]
    omega
  · refine lt32_of_le_of_lt (b := belowOne32) (sub32_le _ _ _ (by decide) hqfin (by decide) ?_) (by decide)
    rw [int32_one32, int32_belowOne32]
    omega

/-- The attack coefficient for a legal level is in [0.0, 1.0]. -/
theorem attackCoeff_range (hc : c.wf) (seconds : F32) {level : F32}
    (h : within32 0x3F8147AE#32 level 0x4124F5C3#32 = true) : within32 zero32 (attackCoeff c seconds level) one32 = true := by
  obtain ⟨hr0, hr1⟩ := attackRatio_range h
  obtain ⟨hlfin, hlneg⟩ := ln32_range hr0 hr1
  unfold attackCoeff
  split
  next hs => exact one_sub32_exp32_range hlfin hlneg (samples_pos hc hs)
  next => decide

end

/-- The sustain target of a level that is not a NaN is the floor or in (0.0, 1.0]. -/
theorem sustainTarget_range {v : F32} (hv : isNaN32 v = false) :
    sustainTarget v = negFloor32 ∨ lt32 zero32 (sustainTarget v) = true ∧ le32 (sustainTarget v) one32 = true := by
  unfold sustainTarget
  split
  next => exact .inl rfl
  next hpos =>
    refine .inr ?_
    split
    next => decide
    next hle => exact ⟨lt32_total hv (by decide) hpos, le32_total (by decide) hv hle⟩

/-- The contract of the attack parameters, said by its parts. -/
theorem attackInContract_iff (seconds shape : F32) :
    attackInContract seconds shape = true ↔ isNaN32 seconds = false ∧ within32 zero32 shape one32 = true := by
  simp [attackInContract]

/-- Settles O45: each coefficient is `1.0` or `1.0` less an exponential of a value at most zero. -/
theorem envCoefficientsInRange : Obligations.EnvCoefficientsInRange := by
  intro c seconds shape hc hnan
  refine ⟨(within32_iff ..).1 (timeCoeff_range hc seconds), fun h0 h1 => ?attack, sustainTarget_range hnan⟩
  case attack =>
    have hlevel := envLevel_range ((within32_iff ..).2 ⟨h0, h1⟩)
    obtain ⟨hlo, hhi⟩ := (within32_iff ..).1 hlevel
    exact ⟨hlo, hhi, (within32_iff ..).1 (attackCoeff_range hc seconds hlevel)⟩

/-! ## The commands on an instance that is there -/

section
variable {s : State} {i : BitVec 8} {e : Env} {k n : Nat} {ok : Bool} {good bad : Env → Env}

/-- A setter in contract writes its registers and its flag, and no mark. -/
theorem envSet_of_inContract (he : getEnv s i = some e) (hok : ok = true) :
    envSet i k n ok good bad s = retOk (putEnv s i { good e with wr := setFlag e.wr k, undef := e.undef }) 0#64 := by
  simp [envSet, he, hok]

/-- A setter out of contract writes free values, its flag and its mark. -/
theorem envSet_of_outOfContract (he : getEnv s i = some e) (hok : ok = false) :
    envSet i k n ok good bad s =
      retOk (drawFree (putEnv s i { bad e with wr := setFlag e.wr k, undef := setFlag e.undef k }) n) 0#64 := by
  simp [envSet, he, hok]

end

/-- Settles O43: the instance is there and the operands are in contract, and what each setter writes is its pseudocode's. -/
theorem envSetters : Obligations.EnvSetters := by
  rintro i s e x y rate l tc hi he hx rfl rfl rfl rfl rfl
  have hget := (getEnv_eq_some ..).2 ⟨hi, he⟩
  have hok : (!isNaN32 (opaF32 s)) = true := congrArg (!·) hx
  refine ⟨fun h0 h1 => envSet_of_inContract hget ?attack, envSet_of_inContract hget hok, envSet_of_inContract hget hok,
    envSet_of_inContract hget hok⟩
  case attack => exact (attackInContract_iff ..).2 ⟨hx, (within32_iff ..).2 ⟨h0, h1⟩⟩

/-- Settles O44: the instance is there and an operand is out of contract, so that each setter stores the next free values. -/
theorem envSettersOutOfContract : Obligations.EnvSettersOutOfContract := by
  rintro i s e x y hi he rfl rfl
  have hget := (getEnv_eq_some ..).2 ⟨hi, he⟩
  refine ⟨fun hout => ⟨_, _, _, envSet_of_outOfContract hget ?attack⟩, fun hnan => ?_⟩
  case attack =>
    rw [Bool.eq_false_iff, Ne, attackInContract_iff, within32_iff]
    rintro ⟨hnan, hshape⟩
    rcases hout with h | h
    · exact absurd (hnan.symm.trans h) Bool.false_ne_true
    · exact h hshape
  have hok : (!isNaN32 (opaF32 s)) = false := congrArg (!·) hnan
  exact ⟨⟨_, _, envSet_of_outOfContract hget hok⟩, ⟨_, _, envSet_of_outOfContract hget hok⟩,
    ⟨_, _, envSet_of_outOfContract hget hok⟩⟩

/-- Settles O48: the instance is there, and the four codes are those of R601. -/
theorem envStat : Obligations.EnvStat := by
  intro i s e hi he
  have hexec : execEnvStat i s = retOk s (e.state.code.setWidth 64) := by
    simp [execEnvStat, (getEnv_eq_some ..).2 ⟨hi, he⟩]
  refine hexec.trans ?_
  cases e.state with
  | init | attack | decay | release => rfl

end Sys2Proof.Machine
end

section
/-! The tick of the envelope (49_adsr.md R602, R610, R611, R613): its step toward the target of a stage, and what the clamps and the
edge rule make of it. -/

namespace Sys2Proof.Machine

/-! ## The one-pole step (R602) -/

/-- A multiple of `2^-24` in [0, 1] is the value of a binary32. -/
theorem exists_int32_eq_grid {t : Nat} (ht : t ≤ 2 ^ 24) : ∃ z, isFin32 z = true ∧ int32 z = t * 2 ^ 125 := by
  rcases ht.lt_or_eq with hlt | rfl
  · obtain ⟨m, hm⟩ := exists_magUnits_eq (p := 24) (by omega) t 125 hlt
    have hle : m ≤ 0x3F800000 := (magUnits_le_iff 24 _ _ (by omega)).1 (by rw [hm, magUnits_one32]; omega)
    refine ⟨pack32 false m, ?_, ?_⟩
    · rw [isFin32_iff, mag32_pack32 _ _ (by omega), inf32]
      omega
    · rw [int32_eq_signedNum, sign32_pack32 _ _ (by omega), mag32_pack32 _ _ (by omega), hm]
      simp [signedNum]
  · exact ⟨one32, by decide, by decide⟩

/-- A difference in [0, 1] rounds up by at most `2^-25`, half a step of the grid it is never coarser than. -/
theorem sub32_le_half_grid {a b : F32} (ha : isFin32 a = true) (hb : isFin32 b = true) (hlo : 0 ≤ int32 a - int32 b)
    (hhi : int32 a - int32 b ≤ 2 ^ 149) : int32 (sub32 a b) ≤ int32 a - int32 b + 2 ^ 124 := by
  have hrn := isRN32_sub32 a b ha hb
  unfold IsRN32 at hrn
  rw [if_neg (by omega)] at hrn
  obtain ⟨-, hnear⟩ := hrn
  generalize int32 a - int32 b = k at *
  obtain ⟨t, ht⟩ : ∃ t : Nat, (t : Int) = (k + 2 ^ 124) / 2 ^ 125 :=
    ⟨((k + 2 ^ 124) / 2 ^ 125).toNat, Int.toNat_of_nonneg (by omega)⟩
  obtain ⟨z, hzfin, hz⟩ := exists_int32_eq_grid (t := t) (by omega)
  by_cases heq : int32 z = int32 (sub32 a b)
  · omega
  · have := hnear z hzfin heq
    omega

/-- No binary32 lies between 1 and `1 + 2^-23`: their order keys are neighbours. -/
theorem int32_above_one {y : F32} (h : 2 ^ 149 < int32 y) : 2 ^ 149 + 2 ^ 126 ≤ int32 y := by
  have hone := key32_lt_iff one32 y
  have hnext := key32_lt_iff y 0x3F800001#32
  have hkey : key32 0x3F800001#32 = key32 one32 + 1 ∧ int32 0x3F800001#32 = 2 ^ 149 + 2 ^ 126 := by decide
  rw [int32_one32] at hone
  omega

/-- A sum of at most `1 + 2^-25` rounds to at most 1. -/
theorem add32_le_one {a b : F32} (ha : isFin32 a = true) (hb : isFin32 b = true) (hlo : 0 ≤ int32 a + int32 b)
    (hhi : int32 a + int32 b ≤ 2 ^ 149 + 2 ^ 124) : le32 (add32 a b) one32 = true := by
  have hrn := isRN32_add32 a b ha hb
  unfold IsRN32 at hrn
  rw [if_neg (by omega)] at hrn
  obtain ⟨hfin, hnear⟩ := hrn
  rw [le32_iff _ _ hfin (by decide), int32_one32]
  by_contra hgt
  have hnext := int32_above_one (lt_of_not_ge hgt)
  have := hnear one32 (by decide) (by rw [int32_one32]; omega)
  rw [int32_one32] at this
  omega

section
variable {x target d0 : F32}

/-- Toward a target above, the scaled distance is not negative and at most the distance. -/
theorem increment_range (hx : within32 zero32 x one32 = true) (hd : within32 zero32 d0 one32 = true)
    (ht : isFin32 target = true) (hle : int32 x ≤ int32 target) :
    isFin32 (mul32 d0 (sub32 target x)) = true ∧ 0 ≤ int32 (mul32 d0 (sub32 target x)) ∧
    int32 (mul32 d0 (sub32 target x)) ≤ int32 (sub32 target x) := by
  obtain ⟨hxfin, hx0, -⟩ := (within32_unit_iff x).1 hx
  obtain ⟨hdfin, hd0, hd1⟩ := (within32_unit_iff d0).1 hd
  obtain ⟨hqfin, hq0, -⟩ := sub32_between (lo := zero32) (hi := target) ht hxfin (by decide) ht (by rw [int32_zero32]; omega)
    (by omega)
  rw [int32_zero32] at hq0
  have h := mul32_between (lo := zero32) (hi := sub32 target x) hdfin hqfin (by decide) hqfin
    (by rw [int32_zero32, Int.zero_mul]; exact mul_nonneg hd0 hq0)
    (by rw [mul_comm (int32 d0)]; exact mul_le_mul_of_nonneg_left hd1 hq0)
  rwa [int32_zero32] at h

/-- A step toward a target above does not fall. -/
theorem le_onePole (hx : within32 zero32 x one32 = true) (hd : within32 zero32 d0 one32 = true) (ht : isFin32 target = true)
    (hle : int32 x ≤ int32 target) : le32 x (onePole x target d0) = true := by
  obtain ⟨hpfin, hp0, -⟩ := increment_range hx hd ht hle
  obtain ⟨hxfin, -⟩ := (within32_unit_iff x).1 hx
  exact le_add32 _ _ _ hxfin hpfin hxfin (by omega)

/-- A step toward a target above but not above 1 does not pass 1: the distance rounds up by at most `2^-25`. -/
theorem onePole_le_one (hx : within32 zero32 x one32 = true) (hd : within32 zero32 d0 one32 = true)
    (ht : isFin32 target = true) (hle : int32 x ≤ int32 target) (hone : int32 target ≤ 2 ^ 149) :
    le32 (onePole x target d0) one32 = true := by
  obtain ⟨hpfin, hp0, hp1⟩ := increment_range hx hd ht hle
  obtain ⟨hxfin, hx0, -⟩ := (within32_unit_iff x).1 hx
  have hgrid := sub32_le_half_grid ht hxfin (by omega) (by omega)
  exact add32_le_one hxfin hpfin (by omega) (by omega)

/-- A step toward a target below does not rise. -/
theorem onePole_le (hx : within32 zero32 x one32 = true) (hd : within32 zero32 d0 one32 = true) (ht : isFin32 target = true)
    (hlo : -2 ^ 149 ≤ int32 target) (hle : int32 target ≤ int32 x) : le32 (onePole x target d0) x = true := by
  obtain ⟨hxfin, hx0, hx1⟩ := (within32_unit_iff x).1 hx
  obtain ⟨hdfin, hd0, hd1⟩ := (within32_unit_iff d0).1 hd
  have htwo : int32 0xC0000000#32 = -2 ^ 150 := by decide
  obtain ⟨hqfin, -, hq1⟩ := sub32_between (lo := 0xC0000000#32) (hi := zero32) ht hxfin (by decide) (by decide)
    (by rw [htwo]; omega) (by rw [int32_zero32]; omega)
  rw [int32_zero32] at hq1
  obtain ⟨hpfin, -, hp1⟩ := mul32_between (lo := sub32 target x) (hi := zero32) hdfin hqfin hqfin (by decide)
    (by rw [mul_comm (int32 d0)]; exact mul_le_mul_of_nonpos_left hd1 hq1)
    (by rw [int32_zero32, Int.zero_mul]; exact mul_nonpos_of_nonneg_of_nonpos hd0 hq1)
  rw [int32_zero32] at hp1
  exact add32_le _ _ _ hxfin hpfin hxfin (by omega)

end

/-! ## The stages (R610, step 2) -/

/-- The value of the release target. -/
theorem int32_negFloor32 : int32 negFloor32 = -(10737418 * 2 ^ 119) := by decide

/-- A falling stage keeps the value in [0, 1] if its step does not pass 1, and ends in Init at exactly `+0.0`. -/
theorem fallStage_range {st : Stage} {x target d0 : F32} (hst : st ≠ .init) (h : le32 (onePole x target d0) one32 = true) :
    within32 zero32 (fallStage st x target d0).2 one32 = true ∧
    ((fallStage st x target d0).1 = .init → (fallStage st x target d0).2 = zero32) := by
  unfold fallStage
  dsimp only
  split
  next => exact ⟨by decide, fun _ => rfl⟩
  next hnot =>
    exact ⟨(within32_iff ..).2 ⟨le32_total (not_isNaN32_of_le32 h).1 (by decide) hnot, h⟩, fun heq => absurd heq hst⟩

/-- A falling stage whose step does not rise does not rise. -/
theorem fallStage_le {st : Stage} {x target d0 : F32} (hx : le32 zero32 x = true) (h : le32 (onePole x target d0) x = true) :
    le32 (fallStage st x target d0).2 x = true := by
  unfold fallStage
  dsimp only
  split
  · exact hx
  · exact h

/-- The attack keeps the value in [0, 1], does not fall, and does not end in Init. -/
theorem riseStage_range {x target d0 : F32} (hx : within32 zero32 x one32 = true) (h : le32 x (onePole x target d0) = true) :
    within32 zero32 (riseStage x target d0).2 one32 = true ∧ le32 x (riseStage x target d0).2 = true ∧
    (riseStage x target d0).1 ≠ .init := by
  obtain ⟨hx0, hx1⟩ := (within32_iff ..).1 hx
  unfold riseStage
  dsimp only
  split
  next => exact ⟨by decide, hx1, Stage.noConfusion⟩
  next hnot =>
    have hle := le32_total (by decide) (not_isNaN32_of_le32 h).2 hnot
    exact ⟨(within32_iff ..).2 ⟨le32_trans hx0 h, hle⟩, h, Stage.noConfusion⟩

/-! ## The tick (R610) -/

section
variable {g : Bool} {e : Env} {st : Stage}

/-- A rising edge starts an attack. -/
theorem edgeStage_rising (he : e.gatePrev = false) : edgeStage true e = .attack := by simp [edgeStage, he]

/-- A falling edge starts a release. -/
theorem edgeStage_falling (he : e.gatePrev = true) : edgeStage false e = .release := by simp [edgeStage, he]

/-- Without an edge the stage stays. -/
theorem edgeStage_steady (hg : g = e.gatePrev) : edgeStage g e = e.state := by
  subst hg
  cases h : e.gatePrev <;> simp [edgeStage, h]

/-- The edge rule, said as its three cases. -/
theorem edgeStage_eq (hrise : g = true → e.gatePrev = false → st = .attack)
    (hfall : g = false → e.gatePrev = true → st = .release) (hsame : g = e.gatePrev → st = e.state) : edgeStage g e = st := by
  cases g <;> cases hprev : e.gatePrev
  case false.false => rw [hsame hprev.symm, edgeStage_steady hprev.symm]
  case false.true => rw [hfall rfl hprev, edgeStage_falling hprev]
  case true.false => rw [hrise rfl hprev, edgeStage_rising hprev]
  case true.true => rw [hsame hprev.symm, edgeStage_steady hprev.symm]

/-- No edge leads to Init: a tick in that stage started in it. -/
theorem state_eq_init_of_edgeStage (h : edgeStage g e = .init) : e.state = .init := by
  unfold edgeStage at h
  split at h
  · cases h
  · split at h
    · cases h
    · exact h

/-- Outside Init the output is the running value after the step. -/
theorem envOutput_of_ne_init (h : edgeStage g e ≠ .init) : envOutput g e = (stageStep e (edgeStage g e)).2 := by
  unfold envOutput
  split
  next hst => exact absurd hst h
  next => rfl

/-- A tick in Init keeps the running value and outputs `+0.0`. -/
theorem envTicked_of_init (h : edgeStage g e = .init) :
    (envTicked g e).state = .init ∧ (envTicked g e).x = e.x ∧ envOutput g e = zero32 := by
  simp [envTicked, envOutput, stageStep, h]

/-- A tick of an envelope that is at `+0.0` in Init outputs its new running value. -/
theorem envOutput_eq_x (h : e.state = .init → e.x = zero32) : envOutput g e = (envTicked g e).x := by
  by_cases hst : edgeStage g e = .init
  · obtain ⟨-, hx, hout⟩ := envTicked_of_init hst
    rw [hout, hx, h (state_eq_init_of_edgeStage hst)]
  · exact envOutput_of_ne_init hst

/-- What an envelope holds once all four setters have run and only in contract. -/
structure Tuned (e : Env) : Prop where
  attack : within32 zero32 e.d0a one32 = true
  level : within32 0x3F8147AE#32 e.level 0x4124F5C3#32 = true
  decay : within32 zero32 e.d0d one32 = true
  release : within32 zero32 e.d0r one32 = true
  sustain : e.sus = negFloor32 ∨ lt32 zero32 e.sus = true ∧ le32 e.sus one32 = true

/-- The parameters of an envelope all of whose sets are written and defined are in their ranges (10_state.md R30). -/
theorem EnvParamsOk.tuned (h : EnvParamsOk e) (hwr : e.wr = 0b1111#4) (hundef : e.undef = 0#4) : Tuned e := by
  have hdef : envDefined e 0 = true ∧ envDefined e 1 = true ∧ envDefined e 2 = true ∧ envDefined e 3 = true := by
    unfold envDefined
    rw [hwr, hundef]
    decide
  obtain ⟨hattack, hdecay, hrelease, hsustain⟩ := h
  obtain ⟨h0, h1, h2, h3⟩ := hdef
  exact ⟨(hattack h0).1, (hattack h0).2, hdecay h1, hrelease h2, hsustain h3⟩

/-- The sustain target is finite, at least -1 and at most 1. -/
theorem Tuned.sustain_range (h : Tuned e) : isFin32 e.sus = true ∧ -2 ^ 149 ≤ int32 e.sus ∧ int32 e.sus ≤ 2 ^ 149 := by
  rcases h.sustain with hfloor | ⟨hpos, hle⟩
  · rw [hfloor, int32_negFloor32]
    decide
  · obtain ⟨hfin, hlo, hhi⟩ := (within32_unit_iff _).1 ((within32_iff ..).2 ⟨le32_of_lt32 hpos, hle⟩)
    exact ⟨hfin, by omega, hhi⟩

/-- The step of the attack does not fall: its level is above every running value. -/
theorem Tuned.attack_step (h : Tuned e) (hx : within32 zero32 e.x one32 = true) :
    le32 e.x (onePole e.x e.level e.d0a) = true := by
  obtain ⟨hlo, hhi⟩ := (within32_iff ..).1 h.level
  obtain ⟨hfin, hlo, -⟩ := int32_between (by decide) (by decide) hlo hhi
  rw [int32_levelAtZero] at hlo
  obtain ⟨-, -, hx1⟩ := (within32_unit_iff _).1 hx
  exact le_onePole hx h.attack hfin (by omega)

/-- The step of the decay does not pass 1, whether the sustain target is below the running value or above it. -/
theorem Tuned.decay_step (h : Tuned e) (hx : within32 zero32 e.x one32 = true) :
    le32 (onePole e.x e.sus e.d0d) one32 = true := by
  obtain ⟨hfin, hlo, hhi⟩ := h.sustain_range
  rcases Int.le_total (int32 e.sus) (int32 e.x) with hbelow | habove
  · exact le32_trans (onePole_le hx h.decay hfin hlo hbelow) ((within32_iff ..).1 hx).2
  · exact onePole_le_one hx h.decay hfin habove hhi

/-- The step of the release does not rise: its target is below zero. -/
theorem Tuned.release_step (h : Tuned e) (hx : within32 zero32 e.x one32 = true) :
    le32 (onePole e.x negFloor32 e.d0r) e.x = true := by
  obtain ⟨-, hx0, -⟩ := (within32_unit_iff _).1 hx
  refine onePole_le hx h.release (by decide) (by decide) ?_
  rw [int32_negFloor32]
  omega

/-- Every stage keeps the running value in [0, 1], and a stage that ends in Init leaves it at `+0.0`. -/
theorem Tuned.stageStep_range (h : Tuned e) (hx : within32 zero32 e.x one32 = true) (hinit : st = .init → e.x = zero32) :
    within32 zero32 (stageStep e st).2 one32 = true ∧ ((stageStep e st).1 = .init → (stageStep e st).2 = zero32) := by
  cases st with
  | init => exact ⟨hx, fun _ => hinit rfl⟩
  | attack =>
    obtain ⟨hrange, -, hne⟩ := riseStage_range hx (h.attack_step hx)
    exact ⟨hrange, fun heq => absurd heq hne⟩
  | decay => exact fallStage_range Stage.noConfusion (h.decay_step hx)
  | release => exact fallStage_range Stage.noConfusion (le32_trans (h.release_step hx) ((within32_iff ..).1 hx).2)

/-- A tick keeps the running value in [0, 1], and `+0.0` in Init (R611). -/
theorem envTicked_range (he : EnvOk e) (ht : Tuned e) :
    within32 zero32 (envTicked g e).x one32 = true ∧ ((envTicked g e).state = .init → (envTicked g e).x = zero32) := by
  obtain ⟨hx, hinit, -⟩ := he
  exact ht.stageStep_range hx fun hst => hinit (state_eq_init_of_edgeStage hst)

end

/-- Settles O47: the output is the running value after the tick, which the attack does not lower and the release does not raise. -/
theorem envOutputInRange : Obligations.EnvOutputInRange := by
  intro g e he hwr hundef
  obtain ⟨hx, hinit, hparams⟩ := he
  have ht := hparams.tuned hwr hundef
  have hout : envOutput g e = (envTicked g e).x := envOutput_eq_x hinit
  obtain ⟨hrange, hinit'⟩ := envTicked_range (g := g) ⟨hx, hinit, hparams⟩ ht
  obtain ⟨hlo, hhi⟩ := (within32_iff ..).1 hrange
  refine ⟨hout, hout ▸ hlo, hout ▸ hhi, hinit', fun hattack => ?attack, fun hrelease => ?release⟩
  case attack =>
    have hst : edgeStage g e = .attack := by
      rcases hattack with ⟨rfl, hprev⟩ | ⟨hsame, hst⟩
      · exact edgeStage_rising hprev
      · exact (edgeStage_steady hsame).trans hst
    rw [envOutput_of_ne_init (hst ▸ Stage.noConfusion), hst]
    exact (riseStage_range hx (ht.attack_step hx)).2.1
  case release =>
    have hst : edgeStage g e = .release := by
      rcases hrelease with ⟨rfl, hprev⟩ | ⟨hsame, hst⟩
      · exact edgeStage_falling hprev
      · exact (edgeStage_steady hsame).trans hst
    rw [envOutput_of_ne_init (hst ▸ Stage.noConfusion), hst]
    exact fallStage_le ((within32_iff ..).1 hx).1 (ht.release_step hx)

section
variable {g : Bool} {e : Env} {st : Stage}

/-- A tick outside Init, by the state and the value its stage's step ends with. -/
theorem envTicked_of_stageStep {r : Stage × F32} (hst : edgeStage g e = st) (hne : st ≠ .init) (hr : stageStep e st = r) :
    (envTicked g e).state = r.1 ∧ (envTicked g e).x = r.2 ∧ envOutput g e = r.2 := by
  subst hst hr
  exact ⟨rfl, rfl, envOutput_of_ne_init hne⟩

/-- The two outcomes of a tick in the attack, by its step. -/
theorem envTicked_of_attack {z : F32} (hst : edgeStage g e = .attack) (hz : z = onePole e.x e.level e.d0a) :
    (lt32 one32 z = true → (envTicked g e).state = .decay ∧ (envTicked g e).x = one32 ∧ envOutput g e = one32) ∧
    (lt32 one32 z = false → (envTicked g e).state = .attack ∧ (envTicked g e).x = z ∧ envOutput g e = z) := by
  subst hz
  exact ⟨fun h => envTicked_of_stageStep hst Stage.noConfusion (if_pos h),
    fun h => envTicked_of_stageStep hst Stage.noConfusion (if_neg (Bool.eq_false_iff.1 h))⟩

/-- The two outcomes of a tick in a falling stage, by its step. -/
theorem envTicked_of_fall {target d0 z : F32} (hst : edgeStage g e = st) (hne : st ≠ .init)
    (hfall : stageStep e st = fallStage st e.x target d0) (hz : z = onePole e.x target d0) :
    (lt32 z zero32 = true → (envTicked g e).state = .init ∧ (envTicked g e).x = zero32 ∧ envOutput g e = zero32) ∧
    (lt32 z zero32 = false → (envTicked g e).state = st ∧ (envTicked g e).x = z ∧ envOutput g e = z) := by
  subst hz
  exact ⟨fun h => envTicked_of_stageStep hst hne (hfall.trans (if_pos h)),
    fun h => envTicked_of_stageStep hst hne (hfall.trans (if_neg (Bool.eq_false_iff.1 h)))⟩

end

/-- Settles O46: the tick completes with the registers of `envTicked`, whose stage is that of the edge rule. -/
theorem envTickStages : Obligations.EnvTickStages := by
  intro g i s e st hi he hwr hundef hrise hfall hsame
  have hst : edgeStage g e = st := edgeStage_eq hrise hfall hsame
  refine ⟨envTicked g e, envOutput g e, ?completes, rfl, ?init, ?attack, ?decay, ?release⟩
  case completes => exact (execEnvTick_of_some ((getEnv_eq_some ..).2 ⟨hi, he⟩) hwr g).trans (if_pos hundef)
  case init =>
    rintro rfl
    exact envTicked_of_init hst
  case attack =>
    rintro rfl z hz
    exact envTicked_of_attack hst hz
  case decay =>
    rintro rfl z hz
    exact envTicked_of_fall hst Stage.noConfusion rfl hz
  case release =>
    rintro rfl z hz
    exact envTicked_of_fall hst Stage.noConfusion rfl hz

end Sys2Proof.Machine
end

section
/-! The invariant of the envelopes (49_adsr.md R611, 10_state.md R29, R30): what a step can do to them is said once (`EnvStore`,
`EnvWrite`, `step_env`), and each of these keeps it. -/

namespace Sys2Proof.Machine

/-! ## What a step can do to an envelope -/

/-- What the four setters store (R605 to R608): the number of the flag, whether the operand is in contract, and the registers
written, legal where it is. -/
inductive EnvStore : Nat → Bool → (Env → Env) → Prop
  | attack (ok : Bool) (level d0a : F32)
      (h : ok = true → within32 zero32 d0a one32 = true ∧ within32 0x3F8147AE#32 level 0x4124F5C3#32 = true) :
      EnvStore 0 ok fun e => { e with level := level, d0a := d0a }
  | decay (ok : Bool) (d0d : F32) (h : ok = true → within32 zero32 d0d one32 = true) :
      EnvStore 1 ok fun e => { e with d0d := d0d }
  | release (ok : Bool) (d0r : F32) (h : ok = true → within32 zero32 d0r one32 = true) :
      EnvStore 2 ok fun e => { e with d0r := d0r }
  | sustain (ok : Bool) (sus : F32)
      (h : ok = true → sus = negFloor32 ∨ lt32 zero32 sus = true ∧ le32 sus one32 = true) :
      EnvStore 3 ok fun e => { e with sus := sus }

/-- What a command writes to an envelope: a setter's registers with its flag and mark, or a tick once all sets are written and
defined. -/
inductive EnvWrite (e : Env) : Env → Prop
  | store (k : Nat) (ok : Bool) (f : Env → Env) (h : EnvStore k ok f) :
      EnvWrite e { f e with wr := setFlag e.wr k, undef := markUndef e.undef k ok }
  | tick (g : Bool) (hwr : e.wr = 0b1111#4) (hundef : e.undef = 0#4) : EnvWrite e (envTicked g e)

/-- The envelopes of `t` are those of `s`, but for one that a command has written. -/
def EnvelopesWritten (s t : State) : Prop :=
  t.env = s.env ∨ ∃ i e e', getEnv s i = some e ∧ EnvWrite e e' ∧ t.env = s.env.set i.toNat e'

/-- The opcodes other than those of the `ENV` setters and `ENV.TICK` leave the envelopes as they are (R723). -/
theorem Ends.env_eq {s t : State} (h : Ends s t) (hopc : opcField s.cmd ∉ [0x30#8, 0x31#8, 0x32#8, 0x33#8, 0x34#8]) :
    t.env = s.env := by
  obtain ⟨u, st, w, hw, rfl⟩ := h
  cases hw with
  | env _ _ h => exact absurd h hopc
  | _ => rfl

section
variable {s t : State} {i : BitVec 8}

/-- A setter stores what it stores in contract or out of it, or the instance is not there. -/
theorem envSet_written {k n : Nat} {ok : Bool} {good bad : Env → Env} (hgood : ok = true → EnvStore k true good)
    (hbad : EnvStore k false bad) (h : envSet i k n ok good bad s = .next t) : EnvelopesWritten s t := by
  rcases (envSet_eq_next ..).1 h with ⟨-, rfl⟩ | ⟨e, he, ⟨hok, rfl⟩ | ⟨-, rfl⟩⟩
  · exact .inl rfl
  · exact .inr ⟨i, e, _, he, .store k true good (hgood hok), rfl⟩
  · exact .inr ⟨i, e, _, he, .store k false bad hbad, rfl⟩

/-- `ENV.SET_ATTACK` (R605). -/
theorem execEnvSetAttack_written (hc : s.cfg.wf) (h : execEnvSetAttack i s = .next t) : EnvelopesWritten s t := by
  refine envSet_written (fun hok => .attack true _ _ fun _ => ?_) (.attack false _ _ Bool.noConfusion) h
  have hlevel := envLevel_range ((attackInContract_iff ..).1 hok).2
  exact ⟨attackCoeff_range hc _ hlevel, hlevel⟩

/-- `ENV.SET_DECAY` (R606). -/
theorem execEnvSetDecay_written (hc : s.cfg.wf) (h : execEnvSetDecay i s = .next t) : EnvelopesWritten s t :=
  envSet_written (fun _ => .decay true _ fun _ => timeCoeff_range hc _) (.decay false _ Bool.noConfusion) h

/-- `ENV.SET_RELEASE` (R607). -/
theorem execEnvSetRelease_written (hc : s.cfg.wf) (h : execEnvSetRelease i s = .next t) : EnvelopesWritten s t :=
  envSet_written (fun _ => .release true _ fun _ => timeCoeff_range hc _) (.release false _ Bool.noConfusion) h

/-- `ENV.SET_SUSTAIN` (R608). -/
theorem execEnvSetSustain_written (h : execEnvSetSustain i s = .next t) : EnvelopesWritten s t := by
  refine envSet_written (fun hok => .sustain true _ fun _ => sustainTarget_range ?_) (.sustain false _ Bool.noConfusion) h
  simpa using hok

/-- `ENV.TICK` (R610). -/
theorem execEnvTick_written {g : Bool} (h : execEnvTick g i s = .next t) : EnvelopesWritten s t := by
  rcases execEnvTick_next _ _ _ _ h with rfl | ⟨e, he, hwr, hundef, rfl⟩
  · exact .inl rfl
  · exact .inr ⟨i, e, _, he, .tick g (eq_of_beq hwr) hundef, rfl⟩

end

/-- Each instruction writes one envelope or none. -/
theorem exec_env {s t : State} {i : Instr} (hc : s.cfg.wf) (hn : Names s.cmd i) (h : exec i s = .next t) :
    EnvelopesWritten s t := by
  have hends := exec_ends s t i hn h
  cases hn with
  | envSetAttack => exact execEnvSetAttack_written hc h
  | envSetDecay => exact execEnvSetDecay_written hc h
  | envSetRelease => exact execEnvSetRelease_written hc h
  | envSetSustain => exact execEnvSetSustain_written h
  | envTick => exact execEnvTick_written h
  | _ => exact .inl (hends.env_eq (by simp [*]))

/-- A completing step is the reset event, or writes one envelope or none. -/
theorem step_env {s t : State} (hc : s.cfg.wf) (h : step s = .next t) : t = hostReset s ∨ EnvelopesWritten s t := by
  rcases step_cases s with ⟨-, hstep⟩ | ⟨-, -, hstep⟩ | ⟨-, i, hdec, hstep⟩
  · cases hstep.symm.trans h
    exact .inl rfl
  · cases (raiseIllegal_eq_next ..).1 (hstep.symm.trans h)
    exact .inr (.inl rfl)
  · exact .inr (exec_env hc (decode_names _ _ hdec) (hstep.symm.trans h))

/-! ## What an envelope keeps -/

/-- What `EnvParamsOk` asks of the registers that setter `j` writes. -/
def EnvParamOk (e : Env) : Nat → Prop
  | 0 => within32 zero32 e.d0a one32 = true ∧ within32 0x3F8147AE#32 e.level 0x4124F5C3#32 = true
  | 1 => within32 zero32 e.d0d one32 = true
  | 2 => within32 zero32 e.d0r one32 = true
  | 3 => e.sus = negFloor32 ∨ lt32 zero32 e.sus = true ∧ le32 e.sus one32 = true
  | _ => True

/-- The parameters' ranges, said for each setter. -/
theorem envParamsOk_iff (e : Env) : EnvParamsOk e ↔ ∀ j : Nat, envDefined e j = true → EnvParamOk e j := by
  constructor
  · rintro ⟨h0, h1, h2, h3⟩ j hj
    unfold EnvParamOk
    split
    · exact h0 hj
    · exact h1 hj
    · exact h2 hj
    · exact h3 hj
    · trivial
  · intro h
    exact ⟨h 0, h 1, h 2, h 3⟩

/-- The flags and marks are no parameters. -/
theorem envParamOk_flags (e : Env) (wr undef : BitVec 4) (j : Nat) :
    EnvParamOk { e with wr := wr, undef := undef } j ↔ EnvParamOk e j := by
  unfold EnvParamOk
  split <;> rfl

section
variable {k : Nat} {ok : Bool} {f : Env → Env}

/-- There are four setters. -/
theorem EnvStore.lt (h : EnvStore k ok f) : k < 4 := by
  cases h <;> decide

/-- No setter touches the running value or the state (R605). -/
theorem EnvStore.state_eq (h : EnvStore k ok f) (e : Env) : (f e).x = e.x ∧ (f e).state = e.state := by
  cases h <;> exact ⟨rfl, rfl⟩

/-- In contract a setter's registers are legal. -/
theorem EnvStore.paramOk_same (h : EnvStore k ok f) (hok : ok = true) (e : Env) : EnvParamOk (f e) k := by
  cases h with
  | attack _ _ _ h | decay _ _ h | release _ _ h | sustain _ _ h => exact h hok

/-- A setter writes no register of another setter. -/
theorem EnvStore.paramOk_other (h : EnvStore k ok f) {e : Env} {j : Nat} (hj : j ≠ k) (he : EnvParamOk e j) :
    EnvParamOk (f e) j := by
  cases h <;> unfold EnvParamOk at * <;> split at he <;> simp_all

/-- What is defined after a setter was defined before, or is that setter's own and its operand was in contract. -/
theorem envDefined_store {e e' : Env} {j : Nat} (hk : k < 4) (hwr : e'.wr = setFlag e.wr k)
    (hundef : e'.undef = markUndef e.undef k ok) (h : envDefined e' j = true) :
    (j = k ∧ ok = true) ∨ (j ≠ k ∧ envDefined e j = true) := by
  unfold envDefined at *
  rw [hwr, hundef, getLsbD_setFlag _ _ _ hk, getLsbD_markUndef _ _ _ _ hk] at h
  by_cases hj : j = k <;> simp_all

/-- A setter keeps the parameters legal: its own registers are so if its operand is in contract, and otherwise marked. -/
theorem EnvStore.paramsOk (h : EnvStore k ok f) {e : Env} (he : EnvParamsOk e) :
    EnvParamsOk { f e with wr := setFlag e.wr k, undef := markUndef e.undef k ok } := by
  rw [envParamsOk_iff] at *
  intro j hj
  have hreg : EnvParamOk (f e) j := by
    rcases envDefined_store h.lt rfl rfl hj with ⟨rfl, hok⟩ | ⟨hne, hdef⟩
    · exact h.paramOk_same hok e
    · exact h.paramOk_other hne (he j hdef)
  exact (envParamOk_flags (f e) _ _ j).2 hreg

end

/-- Every write keeps what holds of an envelope between commands: a setter leaves the running value and the state, a tick the
parameters. -/
theorem EnvWrite.envOk {e e' : Env} (h : EnvWrite e e') (he : EnvOk e) : EnvOk e' := by
  have ⟨hx, hinit, hparams⟩ := he
  cases h with
  | store k ok f h =>
    obtain ⟨hxeq, hsteq⟩ := h.state_eq e
    exact ⟨hxeq.symm ▸ hx, fun hst => hxeq.trans (hinit (hsteq.symm.trans hst)), h.paramsOk hparams⟩
  | tick g hwr hundef =>
    obtain ⟨hx', hinit'⟩ := envTicked_range (g := g) he (hparams.tuned hwr hundef)
    exact ⟨hx', hinit', hparams⟩

/-- Settles O60: the reset event re-establishes the invariant, and whatever a command writes to an envelope keeps it. -/
theorem stepKeepsEnvelopes : Obligations.StepKeepsEnvelopes := by
  intro s t hc hs h
  rcases step_env hc h with rfl | heq | ⟨i, e, e', he, hw, heq⟩
  · exact resetWith_envelopesOk s.cfg
  · exact fun e he => hs e (heq ▸ he)
  · have hmem : e ∈ s.env := List.mem_of_getElem? ((getEnv_eq_some ..).1 he).2
    exact fun a ha => forall_mem_set hs (hw.envOk (hs e hmem)) a (heq ▸ ha)

end Sys2Proof.Machine
end

section
/-! The errors (60_exceptions.md R700 to R705, 70_reset_and_hazards.md R760). How a completing instruction can end is said once
(`EndedAs`, `exec_endedAs`): when each error is raised, and that it changes nothing, are then case splits over the status. -/

namespace Sys2Proof.Machine

/-! ## Preconditions on the state -/

section
variable {s : State} {i : BitVec 8}

/-- `OSC.NEXT` is illegal where no configured oscillator is found. -/
theorem execOscNext_of_unconfigured (h : ∀ o, getOsc s i = some o → o.cfg = false) (df : Fmt) :
    execOscNext df i s = raiseIllegal s := by
  cases ho : getOsc s i with
  | none => exact execOscNext_of_none ho df
  | some o => simp [execOscNext, ho, h o ho]

/-- `OSC.AT` is illegal where no configured oscillator is found. -/
theorem execOscAt_of_unconfigured (h : ∀ o, getOsc s i = some o → o.cfg = false) (df : Fmt) :
    execOscAt df i s = raiseIllegal s := by
  cases ho : getOsc s i with
  | none => exact execOscAt_of_none ho df
  | some o => simp [execOscAt, ho, h o ho]

/-- `LUT.NEXT` is illegal where no bound reader is found. -/
theorem execLutNext_of_unbound (h : ∀ l, getLut s i = some l → l.bound = false) : execLutNext i s = raiseIllegal s := by
  cases hl : getLut s i with
  | none => exact execLutNext_of_none hl
  | some l => simp [execLutNext, hl, h l hl]

/-- `LUT.AT` is illegal where no bound reader is found. -/
theorem execLutAt_of_unbound (h : ∀ l, getLut s i = some l → l.bound = false) : execLutAt i s = raiseIllegal s := by
  cases hl : getLut s i with
  | none => exact execLutAt_of_none hl
  | some l => simp [execLutAt, hl, h l hl]

/-- `LUT.BIND` of a handle that is not valid is illegal, whether or not the reader is there. -/
theorem execLutBind_of_invalid (h : handleValid s (opaHandle s) = false) : execLutBind i s = raiseIllegal s := by
  cases hl : getLut s i with
  | none => exact execLutBind_of_none hl
  | some l => simp [execLutBind, hl, h]

/-- `VSO.TICK` is illegal where no instance with all parameters written is found. -/
theorem execVsoTick_of_unwritten (h : ∀ v, getVso s i = some v → v.wr ≠ 0b11111#5) : execVsoTick i s = raiseIllegal s := by
  cases hv : getVso s i with
  | none => exact execVsoTick_of_none hv
  | some v => simp [execVsoTick, hv, vsoWritten, h v hv]

/-- `ENV.TICK` is illegal where no instance with all parameters written is found. -/
theorem execEnvTick_of_unwritten (h : ∀ e, getEnv s i = some e → e.wr ≠ 0b1111#4) (g : Bool) :
    execEnvTick g i s = raiseIllegal s := by
  cases he : getEnv s i with
  | none => exact execEnvTick_of_none he g
  | some e => simp [execEnvTick, he, envWritten, h e he]

end

/-- Settles O50: the only instance that a lookup can find is the listed one, whose precondition fails. -/
theorem prematureCommandIllegal : Obligations.PrematureCommandIllegal := by
  rintro i s r df g rfl
  refine ⟨fun o ho hcfg => ?osc, fun l hl hbound => ?lut, execLutBind_of_invalid, fun v hv hwr => ?vso, fun e he hwr => ?env⟩
  case osc =>
    have hfound : ∀ o', getOsc s i = some o' → o'.cfg = false := by
      intro o' ho'
      cases ho.symm.trans ((getOsc_eq_some ..).1 ho').2
      exact hcfg
    exact ⟨execOscNext_of_unconfigured hfound df, execOscAt_of_unconfigured hfound df⟩
  case lut =>
    have hfound : ∀ l', getLut s i = some l' → l'.bound = false := by
      intro l' hl'
      cases hl.symm.trans ((getLut_eq_some ..).1 hl').2
      exact hbound
    exact ⟨execLutNext_of_unbound hfound, execLutAt_of_unbound hfound⟩
  case vso =>
    refine execVsoTick_of_unwritten fun v' hv' => ?_
    cases hv.symm.trans ((getVso_eq_some ..).1 hv').2
    exact hwr
  case env =>
    refine execEnvTick_of_unwritten (fun e' he' => ?_) g
    cases he.symm.trans ((getEnv_eq_some ..).1 he').2
    exact hwr

/-! ## How a completing instruction ends -/

/-- How the instruction `i` can end when it takes `s` to `t`: with status 0 after any write, or with one of the three errors,
each with its cause and its payload, and with nothing written before it (R700 to R705). -/
inductive EndedAs (i : Instr) (s t : State) : Prop
  | ok (u : State) (w : Word) (ht : t = finish u .ok w)
  | illegal (ht : t = finish s .illegal 0#64)
  | incorrectSize (wk : Wave) (dc : Duty) (j : BitVec 8) (len : Nat) (hi : i = .tblBuild wk dc j)
      (hlen : s.cfg.privLen[j.toNat]? = some len) (hne : len ≠ s.cfg.sampleRate)
      (ht : t = finish s .incorrectSize (sizePayload s.cfg.sampleRate len))
  | tableFull (wk : Wave) (dc : Duty) (hi : i = .tblAlloc wk dc) (hwk : wk.isSourceKind = true)
      (hmiss : findEntry s wk dc (opbF32 s) = none) (hfull : s.cnt = s.cfg.cacheCap) (ht : t = finish s .tableFull 0#64)

/-- A setter of a variable-shape oscillator ends with status 0, or illegal. -/
theorem vsoSet_endedAs {i : Instr} {s t : State} {inst : BitVec 8} {k : Nat} {ok : Bool} {f : Vso → Vso}
    (h : vsoSet inst k ok f s = .next t) : EndedAs i s t := by
  rcases (vsoSet_eq_next ..).1 h with ⟨-, ht⟩ | ⟨v, -, ht⟩
  · exact .illegal ht
  · exact .ok _ _ ht

/-- A setter of an envelope ends with status 0, or illegal. -/
theorem envSet_endedAs {i : Instr} {s t : State} {inst : BitVec 8} {k n : Nat} {ok : Bool} {good bad : Env → Env}
    (h : envSet inst k n ok good bad s = .next t) : EndedAs i s t := by
  rcases (envSet_eq_next ..).1 h with ⟨-, ht⟩ | ⟨e, -, ⟨-, ht⟩ | ⟨-, ht⟩⟩
  · exact .illegal ht
  · exact .ok _ _ ht
  · exact .ok _ _ ht

/-- Each instruction ends in one of the four ways, from the lemma that says what its meaning can do. The conversions are the last
case: they never raise an error. -/
theorem exec_endedAs {i : Instr} {s t : State} (h : exec i s = .next t) : EndedAs i s t := by
  cases i with
  | smpSin | smpSaw | smpTri | smpSqr | smpCos => exact .ok _ _ ((sampleAt_eq_next ..).1 h).2
  | oscCfg wk dc inst =>
    rcases execOscCfg_next _ _ _ _ _ h with ht | ⟨-, -, ht⟩
    · exact .illegal ht
    · exact .ok _ _ ht
  | oscNext df inst =>
    rcases execOscNext_next _ _ _ _ h with ht | ⟨o, -, -, -, ht⟩
    · exact .illegal ht
    · exact .ok _ _ ht
  | oscAt df inst =>
    rcases execOscAt_next _ _ _ _ h with ht | ⟨o, -, -, -, ht⟩
    · exact .illegal ht
    · exact .ok _ _ ht
  | tblBuild wk dc j =>
    rcases execTblBuild_next _ _ _ _ _ h with ht | ⟨len, hlen, hne, ht⟩ | ⟨-, -, -, ht⟩
    · exact .illegal ht
    · exact .incorrectSize wk dc j len rfl hlen hne ht
    · exact .ok _ _ ht
  | tblAlloc wk dc =>
    rcases execTblAlloc_next _ _ _ _ h with ht | ⟨hwk, -, ⟨e, -, ht⟩ | ⟨hmiss, hfull, ht⟩ | ⟨-, -, ht⟩⟩
    · exact .illegal ht
    · exact .ok _ _ ht
    · exact .tableFull wk dc rfl hwk hmiss hfull ht
    · exact .ok _ _ ht
  | lutBind inst =>
    rcases execLutBind_next _ _ _ h with ht | ⟨-, -, ht⟩
    · exact .illegal ht
    · exact .ok _ _ ht
  | lutNext inst =>
    rcases execLutNext_next _ _ _ h with ht | ⟨l, w, -, -, -, ht⟩
    · exact .illegal ht
    · exact .ok _ _ ht
  | lutAt inst =>
    rcases execLutAt_next _ _ _ h with ht | ⟨l, w, -, -, -, ht⟩
    · exact .illegal ht
    · exact .ok _ _ ht
  | vsoSetMaster | vsoSetSlave | vsoSetPw | vsoSetShape | vsoSetSync => exact vsoSet_endedAs h
  | vsoTick inst =>
    rcases execVsoTick_next _ _ _ h with ht | ⟨v, -, -, -, -, ht⟩
    · exact .illegal ht
    · exact .ok _ _ ht
  | envSetAttack | envSetDecay | envSetRelease | envSetSustain => exact envSet_endedAs h
  | envTick g inst =>
    rcases execEnvTick_next _ _ _ _ h with ht | ⟨e, -, -, -, ht⟩
    · exact .illegal ht
    · exact .ok _ _ ht
  | envStat inst =>
    rcases execEnvStat_next _ _ _ h with ht | ⟨e, -, ht⟩
    · exact .illegal ht
    · exact .ok _ _ ht
  | _ => exact .ok _ _ ((convert_eq_next ..).1 h)

/-! ## When each error is raised -/

/-- `TBL.BUILD` of a source kind into a buffer of another length is `IncorrectSize` with both lengths, before the frequency is
looked at (R704, R707). -/
theorem execTblBuild_of_wrongLength {wk : Wave} (hwk : wk.isSourceKind = true) {s : State} {j : BitVec 8} {len : Nat}
    (hlen : s.cfg.privLen[j.toNat]? = some len) (hne : len ≠ s.cfg.sampleRate) (dc : Duty) :
    execTblBuild wk dc j s = raise s .incorrectSize (sizePayload s.cfg.sampleRate len) := by
  simp [execTblBuild, hwk, hlen, hne]

/-- Settles O27: the guards before the length are met, and of the four ways to end only `TBL.BUILD`'s has this status. -/
theorem incorrectSizeExactly : Obligations.IncorrectSizeExactly := by
  refine ⟨fun wk dc j s len hwk hlen hne => execTblBuild_of_wrongLength hwk hlen hne dc, fun i s t h hst => ?_⟩
  cases exec_endedAs h with
  | ok u w ht => simp [ht] at hst
  | illegal ht => simp [ht] at hst
  | incorrectSize wk dc j len hi hlen hne ht => exact ⟨wk, dc, j, len, hi, hlen, hne⟩
  | tableFull wk dc hi hwk hmiss hfull ht => simp [ht] at hst

/-- A tag that does not match, as R545 and R547 write it out. -/
theorem tagMatches_eq_false (wk : Wave) (dc : Duty) (f : F32) (g : Tag) :
    tagMatches wk dc f g = false ↔ ¬(g.kind = wk ∧ g.duty = dc ∧ lt32 (abs32 (sub32 g.freq f)) eps32 = true) := by
  rw [← Bool.not_eq_true]
  simp [tagMatches, freqEq, and_assoc]

/-- A `TBL.ALLOC` of a source kind that completes had its frequency in contract (R504). -/
theorem freqInContract_of_execTblAlloc {wk : Wave} (hwk : wk.isSourceKind = true) {dc : Duty} {s t : State}
    (h : execTblAlloc wk dc s = .next t) : freqInContract (opbF32 s) = true := by
  by_contra hf
  cases (execTblAlloc_of_outOfContract hwk (Bool.eq_false_iff.2 hf) dc).symm.trans h

/-- Settles O28: of the four ways to end only a miss of `TBL.ALLOC` in a full cache has this status, and a miss in a full cache
that completes is in contract. -/
theorem tableFullExactly : Obligations.TableFullExactly := by
  intro i s t h
  constructor
  · intro hst
    cases exec_endedAs h with
    | ok u w ht => simp [ht] at hst
    | illegal ht => simp [ht] at hst
    | incorrectSize wk dc j len hi hlen hne ht => simp [ht] at hst
    | tableFull wk dc hi hwk hmiss hfull ht =>
      exact ⟨wk, dc, hi, hwk, hfull, fun e he g hg =>
        (tagMatches_eq_false ..).1 ((findEntry_eq_none ..).1 hmiss e he g hg)⟩
  · rintro ⟨wk, dc, rfl, hwk, hfull, hnone⟩
    have hmiss : findEntry s wk dc (opbF32 s) = none :=
      (findEntry_eq_none ..).2 fun e he g hg => (tagMatches_eq_false ..).2 (hnone e he g hg)
    have hexec := execTblAlloc_of_full hwk (freqInContract_of_execTblAlloc hwk h) hmiss hfull
    rw [(raise_eq_next ..).1 (hexec.symm.trans h), finish_st]

/-! ## What an error leaves -/

/-- An instruction that ends with an error has written nothing before it (R703). -/
theorem EndedAs.eq_finish {i : Instr} {s t : State} (h : EndedAs i s t) (hst : t.st ≠ .ok) : t = finish s t.st t.res := by
  cases h with
  | ok u w ht => exact absurd (congrArg State.st ht) hst
  | illegal ht | incorrectSize _ _ _ _ _ _ _ ht | tableFull _ _ _ _ _ _ ht =>
    subst ht
    rfl

/-- Settles O52: a refused word is illegal and writes nothing else, and an instruction's error is raised before any write. -/
theorem errorsChangeNothing : Obligations.ErrorsChangeNothing := by
  intro s t hrst h hst
  rcases step_cases s with ⟨hr, -⟩ | ⟨-, -, hstep⟩ | ⟨-, i, -, hstep⟩
  · simp [hrst] at hr
  · cases (raiseIllegal_eq_next ..).1 (hstep.symm.trans h)
    rfl
  · exact (exec_endedAs (hstep.symm.trans h)).eq_finish hst

end Sys2Proof.Machine
end

section
/-! Instances that a command does not address (60_exceptions.md R723). A replacement of registers (`Replacement`) that is hidden
from the addressed instance of each file commutes with every command, whatever the command answers. -/

namespace Sys2Proof.Machine

/-! ## Replacing registers of the instance files -/

/-- A change of the four instance files, each on its own. -/
structure Replacement where
  osc : List Osc → List Osc := id
  lut : List Lut → List Lut := id
  vso : List Vso → List Vso := id
  env : List Env → List Env := id

/-- The state with its instance files replaced. -/
def Replacement.apply (r : Replacement) (s : State) : State :=
  { s with osc := r.osc s.osc, lut := r.lut s.lut, vso := r.vso s.vso, env := r.env s.env }

/-- The answer with the next state's instance files replaced. -/
def Replacement.answer (r : Replacement) : Result → Result
  | .next t => .next (r.apply t)
  | .fault f => .fault f
  | .refused f => .refused f

/-- A change of a file that place `i` does not see: it reads as before, and a write to it can as well come after the change. -/
structure HiddenFrom {α : Type} (f : List α → List α) (i : Nat) : Prop where
  get : ∀ xs, (f xs)[i]? = xs[i]?
  set : ∀ xs x, f (xs.set i x) = (f xs).set i x

/-- A file left as it is: the change is hidden from every place. -/
theorem hiddenFrom_id {α : Type} (i : Nat) : HiddenFrom (id : List α → List α) i := ⟨fun _ => rfl, fun _ _ => rfl⟩

/-- Replacing the registers at one place is hidden from every other place. -/
theorem hiddenFrom_set {α : Type} {k i : Nat} (hne : k ≠ i) (x : α) : HiddenFrom (fun xs => xs.set k x) i :=
  ⟨fun _ => List.getElem?_set_ne hne, fun _ y => List.set_comm y x hne.symm⟩

section
variable {r : Replacement} {i : BitVec 8}

/-- The addressed oscillator is looked up as before. -/
theorem HiddenFrom.getOsc (h : HiddenFrom r.osc i.toNat) (s : State) : getOsc (r.apply s) i = getOsc s i := by
  simp [Machine.getOsc, Replacement.apply, h.get]

/-- The addressed reader is looked up as before. -/
theorem HiddenFrom.getLut (h : HiddenFrom r.lut i.toNat) (s : State) : getLut (r.apply s) i = getLut s i := by
  simp [Machine.getLut, Replacement.apply, h.get]

/-- The addressed variable-shape oscillator is looked up as before. -/
theorem HiddenFrom.getVso (h : HiddenFrom r.vso i.toNat) (s : State) : getVso (r.apply s) i = getVso s i := by
  simp [Machine.getVso, Replacement.apply, h.get]

/-- The addressed envelope is looked up as before. -/
theorem HiddenFrom.getEnv (h : HiddenFrom r.env i.toNat) (s : State) : getEnv (r.apply s) i = getEnv s i := by
  simp [Machine.getEnv, Replacement.apply, h.get]

/-- A write to the addressed oscillator can come before or after the replacement. -/
theorem HiddenFrom.putOsc (h : HiddenFrom r.osc i.toNat) (s : State) (o : Osc) :
    r.apply (putOsc s i o) = putOsc (r.apply s) i o := by
  simp [Machine.putOsc, Replacement.apply, h.set]

/-- A write to the addressed reader can come before or after the replacement. -/
theorem HiddenFrom.putLut (h : HiddenFrom r.lut i.toNat) (s : State) (l : Lut) :
    r.apply (putLut s i l) = putLut (r.apply s) i l := by
  simp [Machine.putLut, Replacement.apply, h.set]

/-- A write to the addressed variable-shape oscillator can come before or after the replacement. -/
theorem HiddenFrom.putVso (h : HiddenFrom r.vso i.toNat) (s : State) (v : Vso) :
    r.apply (putVso s i v) = putVso (r.apply s) i v := by
  simp [Machine.putVso, Replacement.apply, h.set]

/-- A write to the addressed envelope can come before or after the replacement. -/
theorem HiddenFrom.putEnv (h : HiddenFrom r.env i.toNat) (s : State) (e : Env) :
    r.apply (putEnv s i e) = putEnv (r.apply s) i e := by
  simp [Machine.putEnv, Replacement.apply, h.set]

end

/-! ## What a replacement leaves alone, and answers -/

section
variable (r : Replacement) (s : State)

@[simp] theorem Replacement.apply_cfg : (r.apply s).cfg = s.cfg := rfl
@[simp] theorem Replacement.apply_cnt : (r.apply s).cnt = s.cnt := rfl
@[simp] theorem Replacement.apply_mem : (r.apply s).mem = s.mem := rfl
@[simp] theorem Replacement.opbF32_apply : opbF32 (r.apply s) = opbF32 s := rfl
@[simp] theorem Replacement.opaIndex_apply : opaIndex (r.apply s) = opaIndex s := rfl
@[simp] theorem Replacement.opaHandle_apply : opaHandle (r.apply s) = opaHandle s := rfl
@[simp] theorem Replacement.handleValid_apply (h : Handle) : handleValid (r.apply s) h = handleValid s h := rfl
@[simp] theorem Replacement.findEntry_apply (wk : Wave) (dc : Duty) (f : F32) :
    findEntry (r.apply s) wk dc f = findEntry s wk dc f := rfl

-- A replacement and the writes of a table command touch different registers.
@[simp] theorem Replacement.fillTable_apply (h : Handle) (ws : List Word) :
    fillTable (r.apply s) h ws = r.apply (fillTable s h ws) := rfl
@[simp] theorem Replacement.markPrivOk_apply (j : Nat) : markPrivOk (r.apply s) j = r.apply (markPrivOk s j) := rfl
@[simp] theorem Replacement.pushTag_apply (t : Tag) : pushTag (r.apply s) t = r.apply (pushTag s t) := rfl
@[simp] theorem Replacement.drawFree_apply (n : Nat) : drawFree (r.apply s) n = r.apply (drawFree s n) := rfl

-- A replacement and the end of a command touch different registers.
@[simp] theorem Replacement.retOk_apply (w : Word) : retOk (r.apply s) w = r.answer (retOk s w) := rfl
@[simp] theorem Replacement.raise_apply (e : Status) (w : Word) : raise (r.apply s) e w = r.answer (raise s e w) := rfl
@[simp] theorem Replacement.raiseIllegal_apply : raiseIllegal (r.apply s) = r.answer (raiseIllegal s) := rfl
@[simp] theorem Replacement.answer_fault (f : Fault) : r.answer (.fault f) = .fault f := rfl
@[simp] theorem Replacement.answer_refused (f : Refusal) : r.answer (.refused f) = .refused f := rfl

end

/-! ## The commands that address no instance -/

section
variable (r : Replacement) (s : State)

/-- A conversion commutes with every replacement. -/
theorem convert_apply (sf df : Fmt) : convert sf df (r.apply s) = r.answer (convert sf df s) := rfl

/-- A `SMP` command commutes with every replacement. -/
theorem sampleAt_apply (wk : Wave) (df : Fmt) (dc : Duty) :
    sampleAt wk df dc (r.apply s) = r.answer (sampleAt wk df dc s) := by
  cases hc : phaseInContract s.cfg (opaIndex s) (opbF32 s) with
  | true =>
    rw [sampleAt_of_inContract wk df dc hc, sampleAt_of_inContract (s := r.apply s) wk df dc hc]
    rfl
  | false =>
    rw [sampleAt_of_outOfContract wk df dc hc, sampleAt_of_outOfContract (s := r.apply s) wk df dc hc]
    rfl

/-- `TBL.BUILD` commutes with every replacement. -/
theorem execTblBuild_apply (wk : Wave) (dc : Duty) (j : BitVec 8) :
    execTblBuild wk dc j (r.apply s) = r.answer (execTblBuild wk dc j s) := by
  unfold execTblBuild
  cases hlen : s.cfg.privLen[j.toNat]? with
  | none => simp [hlen]
  | some len => cases hf : freqInContract (opbF32 s) <;> simp [hlen, hf, apply_ite r.answer]

/-- `TBL.ALLOC` commutes with every replacement. -/
theorem execTblAlloc_apply (wk : Wave) (dc : Duty) :
    execTblAlloc wk dc (r.apply s) = r.answer (execTblAlloc wk dc s) := by
  unfold execTblAlloc
  cases hf : freqInContract (opbF32 s) with
  | false => simp [hf, apply_ite r.answer]
  | true =>
    cases hfound : findEntry s wk dc (opbF32 s) with
    | some e => simp [hf, hfound, apply_ite r.answer]
    | none => by_cases hfull : s.cnt = s.cfg.cacheCap <;> simp [hf, hfound, hfull, apply_ite r.answer]

end

/-! ## The commands that address an instance -/

section
variable {r : Replacement} {s : State} {i : BitVec 8}

/-- `OSC.CFG` commutes with a replacement hidden from its oscillator. -/
theorem execOscCfg_apply (h : HiddenFrom r.osc i.toNat) (wk : Wave) (dc : Duty) :
    execOscCfg wk dc i (r.apply s) = r.answer (execOscCfg wk dc i s) := by
  unfold execOscCfg
  rw [h.getOsc]
  cases getOsc s i with
  | none => simp
  | some o => simp [apply_ite r.answer, ← h.putOsc]

/-- `OSC.NEXT` commutes with a replacement hidden from its oscillator. -/
theorem execOscNext_apply (h : HiddenFrom r.osc i.toNat) (df : Fmt) :
    execOscNext df i (r.apply s) = r.answer (execOscNext df i s) := by
  unfold execOscNext
  rw [h.getOsc]
  cases getOsc s i with
  | none => rfl
  | some o => simp [apply_ite r.answer, ← h.putOsc]

/-- `OSC.AT` commutes with a replacement hidden from its oscillator. -/
theorem execOscAt_apply (h : HiddenFrom r.osc i.toNat) (df : Fmt) :
    execOscAt df i (r.apply s) = r.answer (execOscAt df i s) := by
  unfold execOscAt
  rw [h.getOsc]
  cases getOsc s i with
  | none => rfl
  | some o => cases hc : phaseInContract s.cfg (opaIndex s) o.freq <;> simp [hc, apply_ite r.answer]

/-- `LUT.BIND` commutes with a replacement hidden from its reader. -/
theorem execLutBind_apply (h : HiddenFrom r.lut i.toNat) : execLutBind i (r.apply s) = r.answer (execLutBind i s) := by
  unfold execLutBind
  rw [h.getLut]
  cases getLut s i with
  | none => rfl
  | some l => simp [apply_ite r.answer, ← h.putLut]

/-- `LUT.NEXT` commutes with a replacement hidden from its reader. -/
theorem execLutNext_apply (h : HiddenFrom r.lut i.toNat) : execLutNext i (r.apply s) = r.answer (execLutNext i s) := by
  unfold execLutNext
  rw [h.getLut]
  cases getLut s i with
  | none => rfl
  | some l => cases hw : memRead s.mem l.tbl l.idx <;> simp [hw, apply_ite r.answer, ← h.putLut]

/-- `LUT.AT` commutes with a replacement hidden from its reader. -/
theorem execLutAt_apply (h : HiddenFrom r.lut i.toNat) : execLutAt i (r.apply s) = r.answer (execLutAt i s) := by
  unfold execLutAt
  rw [h.getLut]
  cases getLut s i with
  | none => rfl
  | some l =>
    cases hw : memRead s.mem l.tbl (BitVec.ofNat 32 (opaIndex s % s.cfg.sampleRate)) <;> simp [hw, apply_ite r.answer]

/-- A setter of a variable-shape oscillator commutes with a replacement hidden from its instance. -/
theorem vsoSet_apply (h : HiddenFrom r.vso i.toNat) (k : Nat) (ok : Bool) (f : Vso → Vso) :
    vsoSet i k ok f (r.apply s) = r.answer (vsoSet i k ok f s) := by
  unfold vsoSet
  rw [h.getVso]
  cases getVso s i with
  | none => rfl
  | some v => simp [← h.putVso]

/-- `VSO.TICK` commutes with a replacement hidden from its instance. -/
theorem execVsoTick_apply (h : HiddenFrom r.vso i.toNat) : execVsoTick i (r.apply s) = r.answer (execVsoTick i s) := by
  unfold execVsoTick
  rw [h.getVso]
  cases getVso s i with
  | none => rfl
  | some v => simp [apply_ite r.answer, ← h.putVso]

/-- A setter of an envelope commutes with a replacement hidden from its instance. -/
theorem envSet_apply (h : HiddenFrom r.env i.toNat) (k n : Nat) (ok : Bool) (good bad : Env → Env) :
    envSet i k n ok good bad (r.apply s) = r.answer (envSet i k n ok good bad s) := by
  unfold envSet
  rw [h.getEnv]
  cases getEnv s i with
  | none => rfl
  | some e => simp [apply_ite r.answer, ← h.putEnv]

/-- `ENV.TICK` commutes with a replacement hidden from its instance. -/
theorem execEnvTick_apply (h : HiddenFrom r.env i.toNat) (g : Bool) :
    execEnvTick g i (r.apply s) = r.answer (execEnvTick g i s) := by
  unfold execEnvTick
  rw [h.getEnv]
  cases getEnv s i with
  | none => rfl
  | some e => simp [apply_ite r.answer, ← h.putEnv]

/-- `ENV.STAT` commutes with a replacement hidden from its instance. -/
theorem execEnvStat_apply (h : HiddenFrom r.env i.toNat) : execEnvStat i (r.apply s) = r.answer (execEnvStat i s) := by
  unfold execEnvStat
  rw [h.getEnv]
  cases getEnv s i <;> rfl

end

/-! ## One step -/

/-- The command word `c` does not address what `r` replaces: under the opcodes of a unit, `r` is hidden from instance `INST` of
that unit's file (R723). -/
structure Replacement.Unaddressed (r : Replacement) (c : BitVec 32) : Prop where
  osc : opcField c ∈ [0x11#8, 0x12#8, 0x13#8] → HiddenFrom r.osc (instField c).toNat
  lut : opcField c ∈ [0x1A#8, 0x1B#8, 0x1C#8] → HiddenFrom r.lut (instField c).toNat
  vso : opcField c ∈ [0x20#8, 0x21#8, 0x22#8, 0x23#8, 0x24#8, 0x25#8] → HiddenFrom r.vso (instField c).toNat
  env : opcField c ∈ [0x30#8, 0x31#8, 0x32#8, 0x33#8, 0x34#8, 0x35#8] → HiddenFrom r.env (instField c).toNat

/-- The instruction that a command word names commutes with every replacement the word does not address. -/
theorem exec_apply {r : Replacement} {s : State} {i : Instr} (h : r.Unaddressed s.cmd) (hn : Names s.cmd i) :
    exec i (r.apply s) = r.answer (exec i s) := by
  cases hn with
  | cvt _ sf df => simp only [exec_cvtInstr, convert_apply]
  | smp _ wk df dc => simp only [exec_smpInstr, sampleAt_apply]
  | oscCfg hopc wk dc => exact execOscCfg_apply (h.osc (by simp [hopc])) wk dc
  | oscNext hopc df => exact execOscNext_apply (h.osc (by simp [hopc])) df
  | oscAt hopc df => exact execOscAt_apply (h.osc (by simp [hopc])) df
  | tblBuild _ wk dc => exact execTblBuild_apply r s wk dc _
  | tblAlloc _ wk dc => exact execTblAlloc_apply r s wk dc
  | lutBind hopc => exact execLutBind_apply (h.lut (by simp [hopc]))
  | lutNext hopc => exact execLutNext_apply (h.lut (by simp [hopc]))
  | lutAt hopc => exact execLutAt_apply (h.lut (by simp [hopc]))
  | vsoSetMaster hopc | vsoSetSlave hopc | vsoSetPw hopc | vsoSetShape hopc | vsoSetSync hopc =>
    exact vsoSet_apply (h.vso (by simp [hopc])) _ _ _
  | vsoTick hopc => exact execVsoTick_apply (h.vso (by simp [hopc]))
  | envSetAttack hopc | envSetDecay hopc | envSetRelease hopc | envSetSustain hopc =>
    exact envSet_apply (h.env (by simp [hopc])) _ _ _ _ _
  | envTick hopc g => exact execEnvTick_apply (h.env (by simp [hopc])) g
  | envStat hopc => exact execEnvStat_apply (h.env (by simp [hopc]))

/-- A step without the reset input commutes with every replacement that its command word does not address. -/
theorem step_apply {r : Replacement} {s : State} (hrst : s.rst = false) (h : r.Unaddressed s.cmd) :
    step (r.apply s) = r.answer (step s) := by
  cases hdec : decode s.cmd with
  | error e =>
    rw [step_of_decode_error s e hrst hdec, step_of_decode_error (r.apply s) e hrst hdec]
    rfl
  | ok i =>
    rw [stepRunsDecoded s i hrst hdec, stepRunsDecoded (r.apply s) i hrst hdec]
    exact exec_apply h (decode_names _ _ hdec)

/-- A completing step completes with the same replacement in the next state. -/
theorem step_apply_of_next {r : Replacement} {s t : State} (hrst : s.rst = false) (hstep : step s = .next t)
    (h : r.Unaddressed s.cmd) : step (r.apply s) = .next (r.apply t) :=
  (step_apply hrst h).trans (congrArg r.answer hstep)

/-- Replacing the registers of instance `k` is hidden from the addressed instance under the unit's opcodes, if the command is of
another unit or addresses another instance. -/
theorem hiddenFrom_set_of_unaddressed {α : Type} {k i : Nat} {opc : BitVec 8} {opcs : List (BitVec 8)}
    (h : k ≠ i ∨ opc ∉ opcs) (x : α) (hopc : opc ∈ opcs) : HiddenFrom (fun xs => xs.set k x) i :=
  hiddenFrom_set (h.resolve_right (absurd hopc)) x

/-- Settles O54: the replacement of one instance's registers is one that the command does not address. -/
theorem instancesIndependent : Obligations.InstancesIndependent := by
  intro s t k hrst hstep
  refine ⟨fun hk o => ?osc, fun hk l => ?lut, fun hk v => ?vso, fun hk e => ?env⟩
  case osc =>
    exact step_apply_of_next (r := { osc := fun xs => xs.set k o }) hrst hstep
      ⟨hiddenFrom_set_of_unaddressed hk o, fun _ => hiddenFrom_id _, fun _ => hiddenFrom_id _, fun _ => hiddenFrom_id _⟩
  case lut =>
    exact step_apply_of_next (r := { lut := fun xs => xs.set k l }) hrst hstep
      ⟨fun _ => hiddenFrom_id _, hiddenFrom_set_of_unaddressed hk l, fun _ => hiddenFrom_id _, fun _ => hiddenFrom_id _⟩
  case vso =>
    exact step_apply_of_next (r := { vso := fun xs => xs.set k v }) hrst hstep
      ⟨fun _ => hiddenFrom_id _, fun _ => hiddenFrom_id _, hiddenFrom_set_of_unaddressed hk v, fun _ => hiddenFrom_id _⟩
  case env =>
    exact step_apply_of_next (r := { env := fun xs => xs.set k e }) hrst hstep
      ⟨fun _ => hiddenFrom_id _, fun _ => hiddenFrom_id _, fun _ => hiddenFrom_id _, hiddenFrom_set_of_unaddressed hk e⟩

end Sys2Proof.Machine
end

section
/-! The flags and marks between resets (70_reset_and_hazards.md R752; logs 11, 12). What a step keeps of every place of a file is
said once (`KeepsEach`): a command writes at most one place, and the registers it writes there keep the flags of those they replace. -/

namespace Sys2Proof.Machine

/-! ## What is kept at every place of a file -/

/-- Every place of the file `xs` is still there in `ys`, with `R` between the registers before and after. -/
def KeepsEach {α : Type} (R : α → α → Prop) (xs ys : List α) : Prop :=
  ∀ (k : Nat) (x : α), xs[k]? = some x → ∃ y, ys[k]? = some y ∧ R x y

section
variable {α : Type} {R : α → α → Prop} {xs : List α}

/-- A file left as it is keeps what every register keeps of itself. -/
theorem keepsEach_refl (hrefl : ∀ x, R x x) : KeepsEach R xs xs :=
  fun _ x hx => ⟨x, hx, hrefl x⟩

/-- One write keeps what the registers written keep of those they replace. -/
theorem keepsEach_set (hrefl : ∀ x, R x x) {i : Nat} {y : α} (hy : ∀ x, xs[i]? = some x → R x y) :
    KeepsEach R xs (xs.set i y) := by
  intro k x hx
  by_cases hik : i = k
  · subst hik
    exact ⟨y, List.getElem?_set_self (List.getElem?_eq_some_iff.1 hx).1, hy x hx⟩
  · exact ⟨x, (List.getElem?_set_ne hik).trans hx, hrefl x⟩

/-- One write over the registers `x` keeps what it keeps of `x`. -/
theorem keepsEach_set_of_get (hrefl : ∀ x, R x x) {i : Nat} {x y : α} (hx : xs[i]? = some x) (hy : R x y) :
    KeepsEach R xs (xs.set i y) :=
  keepsEach_set hrefl fun _ hx' => Option.some.inj (hx.symm.trans hx') ▸ hy

end

/-! ## Flags and marks -/

/-- Setting a flag clears none. -/
theorem and_setFlag {n : Nat} (w : BitVec n) (k : Nat) : w &&& setFlag w k = w := by
  unfold setFlag
  ext j hj
  rw [BitVec.getElem_and, BitVec.getElem_or]
  exact inf_sup_self

/-- A setter's operand clears no mark. -/
theorem and_markUndef {n : Nat} (w : BitVec n) (k : Nat) (ok : Bool) : w &&& markUndef w k ok = w := by
  cases ok
  · exact and_setFlag w k
  · exact BitVec.and_self

/-- A configured oscillator stays configured. -/
def OscFlagKept (o o' : Osc) : Prop := o.cfg = true → o'.cfg = true

/-- A bound reader stays bound. -/
def LutFlagKept (l l' : Lut) : Prop := l.bound = true → l'.bound = true

/-- Every flag of `wr` and every mark of a variable-shape oscillator stays set. -/
def VsoFlagsKept (v v' : Vso) : Prop := v.wr &&& v'.wr = v.wr ∧ v.undef &&& v'.undef = v.undef

/-- Every flag of `wr` and every mark of an envelope stays set. -/
def EnvFlagsKept (e e' : Env) : Prop := e.wr &&& e'.wr = e.wr ∧ e.undef &&& e'.undef = e.undef

/-- An oscillator left alone keeps its flag. -/
theorem oscFlagKept_refl (o : Osc) : OscFlagKept o o := id

/-- A reader left alone keeps its flag. -/
theorem lutFlagKept_refl (l : Lut) : LutFlagKept l l := id

/-- A variable-shape oscillator with the same flags and marks keeps them. -/
theorem vsoFlagsKept_of_eq {v v' : Vso} (hwr : v'.wr = v.wr) (hundef : v'.undef = v.undef) : VsoFlagsKept v v' := by
  simp [VsoFlagsKept, hwr, hundef]

/-- An envelope with the same flags and marks keeps them. -/
theorem envFlagsKept_of_eq {e e' : Env} (hwr : e'.wr = e.wr) (hundef : e'.undef = e.undef) : EnvFlagsKept e e' := by
  simp [EnvFlagsKept, hwr, hundef]

/-- A variable-shape oscillator left alone keeps its flags and marks. -/
theorem vsoFlagsKept_refl (v : Vso) : VsoFlagsKept v v := vsoFlagsKept_of_eq rfl rfl

/-- An envelope left alone keeps its flags and marks. -/
theorem envFlagsKept_refl (e : Env) : EnvFlagsKept e e := envFlagsKept_of_eq rfl rfl

/-! ## What a command keeps -/

section
variable {s u : State}

/-- `OSC.CFG` sets the flag, `OSC.NEXT` writes the phase only. -/
theorem Writes.osc_kept (h : Writes s u) : KeepsEach OscFlagKept s.osc u.osc := by
  cases h with
  | oscCfg => exact keepsEach_set oscFlagKept_refl fun _ _ _ => rfl
  | oscNext o _ ho => exact keepsEach_set_of_get oscFlagKept_refl ((getOsc_eq_some ..).1 ho).2 id
  | _ => exact keepsEach_refl oscFlagKept_refl

/-- `LUT.BIND` sets the flag, `LUT.NEXT` writes the index only. -/
theorem Writes.lut_kept (h : Writes s u) : KeepsEach LutFlagKept s.lut u.lut := by
  cases h with
  | lutBind => exact keepsEach_set lutFlagKept_refl fun _ _ _ => rfl
  | lutNext l _ hl => exact keepsEach_set_of_get lutFlagKept_refl ((getLut_eq_some ..).1 hl).2 id
  | _ => exact keepsEach_refl lutFlagKept_refl

/-- The setters of a variable-shape oscillator add to its flags and marks, a tick leaves them as they are. -/
theorem Writes.vso_kept (h : Writes s u) : KeepsEach VsoFlagsKept s.vso u.vso := by
  cases h with
  | vsoSet k ok f v _ hv =>
    exact keepsEach_set_of_get vsoFlagsKept_refl ((getVso_eq_some ..).1 hv).2 ⟨and_setFlag v.wr k, and_markUndef v.undef k ok⟩
  | vsoTick v _ hv =>
    exact keepsEach_set_of_get vsoFlagsKept_refl ((getVso_eq_some ..).1 hv).2 (vsoFlagsKept_of_eq rfl rfl)
  | _ => exact keepsEach_refl vsoFlagsKept_refl

/-- `TBL.BUILD` sets its buffer's flag, and no command clears one. -/
theorem Writes.privOk_kept (h : Writes s u) {k : Nat} (hk : s.privOk[k]? = some true) : u.privOk[k]? = some true := by
  cases h with
  | tblBuild =>
    obtain ⟨y, hy, hkept⟩ :=
      keepsEach_set (R := fun b b' => b = true → b' = true) (fun _ => id) (fun _ _ _ => rfl) k true hk
    exact hy.trans (congrArg some (hkept rfl))
  | _ => exact hk

/-- `TBL.ALLOC` adds an entry to the cache, and no command removes one. -/
theorem Writes.cnt_le (h : Writes s u) : s.cnt ≤ u.cnt := by
  cases h with
  | tblAlloc => exact Nat.le_succ s.cnt
  | _ => exact Nat.le_refl s.cnt

end

/-! ## The envelopes

`Writes` says of an envelope only which one is written, and `step_env` needs a legal configuration, so the `ENV` commands are gone
through here. -/

section
variable {s t : State} {i : BitVec 8}

/-- A setter adds to the flags and marks of its envelope, whether its operand is in contract or not. -/
theorem envSet_kept {k n : Nat} {ok : Bool} {good bad : Env → Env} (h : envSet i k n ok good bad s = .next t) :
    KeepsEach EnvFlagsKept s.env t.env := by
  rcases (envSet_eq_next ..).1 h with ⟨-, rfl⟩ | ⟨e, he, ⟨-, rfl⟩ | ⟨-, rfl⟩⟩
  · exact keepsEach_refl envFlagsKept_refl
  · exact keepsEach_set_of_get envFlagsKept_refl ((getEnv_eq_some ..).1 he).2
      ⟨and_setFlag e.wr k, and_markUndef e.undef k true⟩
  · exact keepsEach_set_of_get envFlagsKept_refl ((getEnv_eq_some ..).1 he).2
      ⟨and_setFlag e.wr k, and_markUndef e.undef k false⟩

/-- `ENV.TICK` leaves the flags and marks of its envelope as they are. -/
theorem execEnvTick_kept {g : Bool} (h : execEnvTick g i s = .next t) : KeepsEach EnvFlagsKept s.env t.env := by
  rcases execEnvTick_next _ _ _ _ h with rfl | ⟨e, he, -, -, rfl⟩
  · exact keepsEach_refl envFlagsKept_refl
  · exact keepsEach_set_of_get envFlagsKept_refl ((getEnv_eq_some ..).1 he).2 (envFlagsKept_of_eq rfl rfl)

end

/-- Each instruction keeps the flags and marks of every envelope. -/
theorem exec_env_kept {s t : State} {i : Instr} (hn : Names s.cmd i) (h : exec i s = .next t) :
    KeepsEach EnvFlagsKept s.env t.env := by
  have hends := exec_ends s t i hn h
  cases hn with
  | envSetAttack | envSetDecay | envSetRelease | envSetSustain => exact envSet_kept h
  | envTick => exact execEnvTick_kept h
  | _ => exact hends.env_eq (by simp [*]) ▸ keepsEach_refl envFlagsKept_refl

/-- A completing step without reset keeps the flags and marks of every envelope; a refused word writes none. -/
theorem step_env_kept {s t : State} (hrst : s.rst = false) (h : step s = .next t) : KeepsEach EnvFlagsKept s.env t.env := by
  rcases step_cases s with ⟨hr, -⟩ | ⟨-, -, hstep⟩ | ⟨-, i, hdec, hstep⟩
  · simp [hrst] at hr
  · cases (raiseIllegal_eq_next ..).1 (hstep.symm.trans h)
    exact keepsEach_refl envFlagsKept_refl
  · exact exec_env_kept (decode_names _ _ hdec) (hstep.symm.trans h)

/-- Settles O55: each flag is kept by all that a completing command can write. -/
theorem flagsNeverCleared : Obligations.FlagsNeverCleared := by
  intro s t hrst h
  have henv := step_env_kept hrst h
  obtain ⟨u, st, w, hw, rfl⟩ := step_ends s t hrst h
  exact ⟨hw.osc_kept, hw.lut_kept, hw.vso_kept, henv, fun _ => hw.privOk_kept, hw.cnt_le⟩

end Sys2Proof.Machine
end
